-- ==== Sys2Proof/Word.lean ====
section
/-! DEFINITION. The word and byte types (R7, R60 of spec/: an instruction word is 32 bits, a byte is 8). -/

namespace Sys2Proof

/-- A 32-bit word: an opcode, an address as carried, a register (R7, R9). -/
abbrev Word := BitVec 32

/-- A halfword, the result of `read16` (R132). -/
abbrev Half := BitVec 16

/-- A byte of memory (R7). -/
abbrev Byte := BitVec 8

end Sys2Proof
end

