-- ==== Sys2Proof/Formats.lean ====
section
/-! DEFINITION. The vocabulary of the twenty instruction formats (30_encoding.md of spec/): the type names of R64,
the field names and the field widths of R62, and the names of the mnemonic tables R112 to R114. Types only; the
tables and the functions over them stand in Decode.lean and under Machine/. -/

namespace Sys2Proof

/-- The classification outcomes: UNKNOWN and the twenty named types, in priority order (R64). -/
inductive Kind where
  | unknown
  | aluRegShiftImm
  | aluRegShiftReg
  | aluImm
  | psrImm
  | psrReg
  | branchExchange
  | multiply
  | multiplyLong
  | swap
  | halfwordReg
  | halfwordImm
  | transferReg
  | transferImm
  | undefined
  | blockTransfer
  | branch
  | coprocDataTransfer
  | coprocDataOp
  | coprocRegTransfer
  | softwareInterrupt
  deriving DecidableEq, Repr

/-- The field names of R62. A name means something only inside its own type. -/
inductive FieldName where
  | cond | op | s | rn | rd | shiftAmount | shiftType | rm | rs | rotate | imm | psr | fieldMask | msr
  | l | rdHi | rdLo | b | p | u | w | sh | offsetHi | offsetLo | offset | registerList | n | crd
  | cpNum | cpOpc | crn | cp | crm | comment
  deriving DecidableEq, Repr

/-- The sixteen names of the ALU mnemonic table (R112). -/
inductive AluName where
  | and | eor | sub | rsb | add | adc | sbc | rsc | tst | teq | cmp | cmn | orr | mov | bic | mvn
  deriving DecidableEq, Repr

/-- The seven names of the multiply mnemonic table (R113); code 3 has none. -/
inductive MulName where
  | mul | mla | umaal | umull | umlal | smull | smlal
  deriving DecidableEq, Repr

/-- The sixteen condition codes of the suffix table (R114); `al` has the empty suffix. -/
inductive CondName where
  | eq | ne | hs | lo | mi | pl | vs | vc | hi | ls | ge | lt | gt | le | al | nv
  deriving DecidableEq, Repr

/-! The field map of each type, as a record of its fields at their widths (R62, R75). -/

/-- The fields of `ALU_REG_SHIFT_IMM` (R62, R80). -/
structure AluRegShiftImmFields where
  (cond op : BitVec 4)
  s : BitVec 1
  (rn rd : BitVec 4)
  shiftAmount : BitVec 5
  shiftType : BitVec 2
  rm : BitVec 4
  deriving DecidableEq, Repr

/-- The fields of `ALU_REG_SHIFT_REG` (R62, R81). -/
structure AluRegShiftRegFields where
  (cond op : BitVec 4)
  s : BitVec 1
  (rn rd rs : BitVec 4)
  shiftType : BitVec 2
  rm : BitVec 4
  deriving DecidableEq, Repr

/-- The fields of `ALU_IMM` (R62, R82). -/
structure AluImmFields where
  (cond op : BitVec 4)
  s : BitVec 1
  (rn rd rotate : BitVec 4)
  imm : BitVec 8
  deriving DecidableEq, Repr

/-- The fields of `PSR_IMM` (R62, R83). -/
structure PsrImmFields where
  cond : BitVec 4
  psr : BitVec 1
  (fieldMask rd rotate : BitVec 4)
  imm : BitVec 8
  deriving DecidableEq, Repr

/-- The fields of `PSR_REG` (R62, R84). -/
structure PsrRegFields where
  cond : BitVec 4
  (psr msr : BitVec 1)
  (fieldMask rd rm : BitVec 4)
  deriving DecidableEq, Repr

/-- The fields of `BRANCH_EXCHANGE` (R62, R85). -/
structure BranchExchangeFields where
  cond : BitVec 4
  l : BitVec 1
  rn : BitVec 4
  deriving DecidableEq, Repr

/-- The fields of `MULTIPLY` (R62, R90). -/
structure MultiplyFields where
  cond : BitVec 4
  op : BitVec 3
  s : BitVec 1
  (rd rn rs rm : BitVec 4)
  deriving DecidableEq, Repr

/-- The fields of `MULTIPLY_LONG` (R62, R91). -/
structure MultiplyLongFields where
  cond : BitVec 4
  op : BitVec 3
  s : BitVec 1
  (rdHi rdLo rs rm : BitVec 4)
  deriving DecidableEq, Repr

/-- The fields of `SWAP` (R62, R92). -/
structure SwapFields where
  cond : BitVec 4
  b : BitVec 1
  (rn rd rm : BitVec 4)
  deriving DecidableEq, Repr

/-- The fields of `HALFWORD_REG` (R62, R93). -/
structure HalfwordRegFields where
  cond : BitVec 4
  (p u w l : BitVec 1)
  (rn rd : BitVec 4)
  sh : BitVec 2
  rm : BitVec 4
  deriving DecidableEq, Repr

/-- The fields of `HALFWORD_IMM` (R62, R94). -/
structure HalfwordImmFields where
  cond : BitVec 4
  (p u w l : BitVec 1)
  (rn rd offsetHi : BitVec 4)
  sh : BitVec 2
  offsetLo : BitVec 4
  deriving DecidableEq, Repr

/-- The fields of `TRANSFER_REG` (R62, R95). -/
structure TransferRegFields where
  cond : BitVec 4
  (p u b w l : BitVec 1)
  (rn rd : BitVec 4)
  shiftAmount : BitVec 5
  shiftType : BitVec 2
  rm : BitVec 4
  deriving DecidableEq, Repr

/-- The fields of `TRANSFER_IMM` (R62, R96). -/
structure TransferImmFields where
  cond : BitVec 4
  (p u b w l : BitVec 1)
  (rn rd : BitVec 4)
  offset : BitVec 12
  deriving DecidableEq, Repr

/-- The fields of `UNDEFINED` (R62, R97). -/
structure UndefinedFields where
  cond : BitVec 4
  deriving DecidableEq, Repr

/-- The fields of `BLOCK_TRANSFER` (R62, R98). -/
structure BlockTransferFields where
  cond : BitVec 4
  (p u s w l : BitVec 1)
  rn : BitVec 4
  registerList : BitVec 16
  deriving DecidableEq, Repr

/-- The fields of `BRANCH` (R62, R100). -/
structure BranchFields where
  cond : BitVec 4
  l : BitVec 1
  offset : BitVec 24
  deriving DecidableEq, Repr

/-- The fields of `COPROC_DATA_TRANSFER` (R62, R101). -/
structure CoprocDataTransferFields where
  cond : BitVec 4
  (p u n w l : BitVec 1)
  (rn crd cpNum : BitVec 4)
  offset : BitVec 8
  deriving DecidableEq, Repr

/-- The fields of `COPROC_DATA_OP` (R62, R102). -/
structure CoprocDataOpFields where
  (cond cpOpc crn crd cpNum : BitVec 4)
  cp : BitVec 3
  crm : BitVec 4
  deriving DecidableEq, Repr

/-- The fields of `COPROC_REG_TRANSFER` (R62, R103). -/
structure CoprocRegTransferFields where
  cond : BitVec 4
  cpOpc : BitVec 3
  l : BitVec 1
  (crn rd cpNum : BitVec 4)
  cp : BitVec 3
  crm : BitVec 4
  deriving DecidableEq, Repr

/-- The fields of `SOFTWARE_INTERRUPT` (R62, R104). -/
structure SoftwareInterruptFields where
  cond : BitVec 4
  comment : BitVec 24
  deriving DecidableEq, Repr

/-- The result of classifying a word: its type together with that type's fields (R16, R75); `unknown` carries the
empty field map (R76). -/
inductive Classification where
  | unknown
  | aluRegShiftImm (f : AluRegShiftImmFields)
  | aluRegShiftReg (f : AluRegShiftRegFields)
  | aluImm (f : AluImmFields)
  | psrImm (f : PsrImmFields)
  | psrReg (f : PsrRegFields)
  | branchExchange (f : BranchExchangeFields)
  | multiply (f : MultiplyFields)
  | multiplyLong (f : MultiplyLongFields)
  | swap (f : SwapFields)
  | halfwordReg (f : HalfwordRegFields)
  | halfwordImm (f : HalfwordImmFields)
  | transferReg (f : TransferRegFields)
  | transferImm (f : TransferImmFields)
  | undefined (f : UndefinedFields)
  | blockTransfer (f : BlockTransferFields)
  | branch (f : BranchFields)
  | coprocDataTransfer (f : CoprocDataTransferFields)
  | coprocDataOp (f : CoprocDataOpFields)
  | coprocRegTransfer (f : CoprocRegTransferFields)
  | softwareInterrupt (f : SoftwareInterruptFields)
  deriving DecidableEq, Repr

/-! The operands that are left free by one row of the opcode table, where the row fixes part of the fields. -/

/-- Operands of a shift-by-immediate ALU row: the row fixes `Op` (R80). -/
structure AluRegShiftImmOperands where
  cond : BitVec 4
  s : BitVec 1
  (rn rd : BitVec 4)
  shiftAmount : BitVec 5
  shiftType : BitVec 2
  rm : BitVec 4
  deriving DecidableEq, Repr

/-- Operands of a shift-by-immediate compare row: the row fixes `Op`, `S` = 1 and `Rd` (R73, R80). -/
structure CmpRegShiftImmOperands where
  (cond rn : BitVec 4)
  shiftAmount : BitVec 5
  shiftType : BitVec 2
  rm : BitVec 4
  deriving DecidableEq, Repr

/-- Operands of a shift-by-register ALU row: the row fixes `Op` (R81). -/
structure AluRegShiftRegOperands where
  cond : BitVec 4
  s : BitVec 1
  (rn rd rs : BitVec 4)
  shiftType : BitVec 2
  rm : BitVec 4
  deriving DecidableEq, Repr

/-- Operands of a shift-by-register compare row: the row fixes `Op`, `S` = 1 and `Rd` (R73, R81). -/
structure CmpRegShiftRegOperands where
  (cond rn rs : BitVec 4)
  shiftType : BitVec 2
  rm : BitVec 4
  deriving DecidableEq, Repr

/-- Operands of an immediate ALU row: the row fixes `Op` (R82). -/
structure AluImmOperands where
  cond : BitVec 4
  s : BitVec 1
  (rn rd rotate : BitVec 4)
  imm : BitVec 8
  deriving DecidableEq, Repr

/-- Operands of an immediate compare row: the row fixes `Op`, `S` = 1 and `Rd` (R73, R82). -/
structure CmpImmOperands where
  (cond rn rotate : BitVec 4)
  imm : BitVec 8
  deriving DecidableEq, Repr

/-- Operands of BX and BLX: the row fixes `L` (R85). -/
structure BranchExchangeOperands where
  (cond rn : BitVec 4)
  deriving DecidableEq, Repr

/-- Operands of a short multiply row: the row fixes `Op` (R90). -/
structure MultiplyOperands where
  cond : BitVec 4
  s : BitVec 1
  (rd rn rs rm : BitVec 4)
  deriving DecidableEq, Repr

/-- Operands of a long multiply row: the row fixes `Op` (R91). -/
structure MultiplyLongOperands where
  cond : BitVec 4
  s : BitVec 1
  (rdHi rdLo rs rm : BitVec 4)
  deriving DecidableEq, Repr

/-- Operands of B and BL: the row fixes `L` (R100). -/
structure BranchOperands where
  cond : BitVec 4
  offset : BitVec 24
  deriving DecidableEq, Repr

end Sys2Proof
end

