-- ==== Sys2Proof/Config.lean ====
section
/-! DEFINITION. What the spec leaves to the implementation (R7, R19): the model parameters, the format options, and the one
free value, the buffer contents after a reset. -/

namespace Sys2Proof.Config

/-- The model parameters of R7 that are settings: `AMBIGUITY_FATAL` and the five text parameters, with the defaults of R7
and R124. They are strap inputs, fixed for the life of the machine (R19 (b)): State carries them so that a statement
about every state covers every setting (log entry 4). -/
structure Params where
  /-- `AMBIGUITY_FATAL` (R77, D1). -/
  ambiguityFatal : Bool := false
  /-- `TXT_ALU_OPERANDS` (R115, R124). -/
  txtAluOperands : String := " ..."
  /-- `TXT_UNKNOWN` (R121, R124). -/
  txtUnknown : String := "???"
  /-- `TXT_PLACEHOLDER` where it differs from the default of R124, one pair per type (log entry 5). -/
  txtPlaceholder : List (Kind × String) := []
  /-- `REG_PREFIX` (R116, R124). -/
  regPrefix : String := "R"
  /-- `LABEL_PREFIX` (R119, R124). -/
  labelPrefix : String := ""
  deriving DecidableEq, Repr

/-- The format options supplied with a `render` call and with a cycle (R19 (a), R110, R150). -/
structure FormatOptions where
  showAddress : Bool
  showOpcode : Bool
  deriving DecidableEq, Repr

/-- FREE VALUE, log entry 1. `INIT_BUFFERS` (R181, D16): the byte that reset number `n` leaves in a cell of the backing
buffers, the first reset being number 0; nothing constrains it. -/
opaque initBuffers : Nat → Nat → Byte

end Sys2Proof.Config
end

