-- ==== Sys2Proof/Syntax.lean ====
section
/-! DEFINITION. The instructions: one constructor for each row of spec/opcode_table.json, in the table's order. A row
fixes part of its format's fields; the constructor carries the rest at their widths (R62). The compare-class mnemonics
have two rows in each ALU format, one for `Rd` = 0 and one for `Rd` = 15 (R73), hence two constructors. -/

namespace Sys2Proof

/-- The instruction words the CORE classifies, by opcode-table row (R80 to R85, R90 to R98, R100 to R104). UNKNOWN
(R105) is no instruction: it is what DEC answers when no row fits. -/
inductive Instr where
  -- ALU_REG_SHIFT_IMM, type 1 (R80)
  | andRegShiftImm (o : AluRegShiftImmOperands)
  | eorRegShiftImm (o : AluRegShiftImmOperands)
  | subRegShiftImm (o : AluRegShiftImmOperands)
  | rsbRegShiftImm (o : AluRegShiftImmOperands)
  | addRegShiftImm (o : AluRegShiftImmOperands)
  | adcRegShiftImm (o : AluRegShiftImmOperands)
  | sbcRegShiftImm (o : AluRegShiftImmOperands)
  | rscRegShiftImm (o : AluRegShiftImmOperands)
  | tstRegShiftImmRd0 (o : CmpRegShiftImmOperands)
  | tstRegShiftImmRd15 (o : CmpRegShiftImmOperands)
  | teqRegShiftImmRd0 (o : CmpRegShiftImmOperands)
  | teqRegShiftImmRd15 (o : CmpRegShiftImmOperands)
  | cmpRegShiftImmRd0 (o : CmpRegShiftImmOperands)
  | cmpRegShiftImmRd15 (o : CmpRegShiftImmOperands)
  | cmnRegShiftImmRd0 (o : CmpRegShiftImmOperands)
  | cmnRegShiftImmRd15 (o : CmpRegShiftImmOperands)
  | orrRegShiftImm (o : AluRegShiftImmOperands)
  | movRegShiftImm (o : AluRegShiftImmOperands)
  | bicRegShiftImm (o : AluRegShiftImmOperands)
  | mvnRegShiftImm (o : AluRegShiftImmOperands)
  -- ALU_REG_SHIFT_REG, type 2 (R81)
  | andRegShiftReg (o : AluRegShiftRegOperands)
  | eorRegShiftReg (o : AluRegShiftRegOperands)
  | subRegShiftReg (o : AluRegShiftRegOperands)
  | rsbRegShiftReg (o : AluRegShiftRegOperands)
  | addRegShiftReg (o : AluRegShiftRegOperands)
  | adcRegShiftReg (o : AluRegShiftRegOperands)
  | sbcRegShiftReg (o : AluRegShiftRegOperands)
  | rscRegShiftReg (o : AluRegShiftRegOperands)
  | tstRegShiftRegRd0 (o : CmpRegShiftRegOperands)
  | tstRegShiftRegRd15 (o : CmpRegShiftRegOperands)
  | teqRegShiftRegRd0 (o : CmpRegShiftRegOperands)
  | teqRegShiftRegRd15 (o : CmpRegShiftRegOperands)
  | cmpRegShiftRegRd0 (o : CmpRegShiftRegOperands)
  | cmpRegShiftRegRd15 (o : CmpRegShiftRegOperands)
  | cmnRegShiftRegRd0 (o : CmpRegShiftRegOperands)
  | cmnRegShiftRegRd15 (o : CmpRegShiftRegOperands)
  | orrRegShiftReg (o : AluRegShiftRegOperands)
  | movRegShiftReg (o : AluRegShiftRegOperands)
  | bicRegShiftReg (o : AluRegShiftRegOperands)
  | mvnRegShiftReg (o : AluRegShiftRegOperands)
  -- ALU_IMM, type 3 (R82)
  | andImm (o : AluImmOperands)
  | eorImm (o : AluImmOperands)
  | subImm (o : AluImmOperands)
  | rsbImm (o : AluImmOperands)
  | addImm (o : AluImmOperands)
  | adcImm (o : AluImmOperands)
  | sbcImm (o : AluImmOperands)
  | rscImm (o : AluImmOperands)
  | tstImmRd0 (o : CmpImmOperands)
  | tstImmRd15 (o : CmpImmOperands)
  | teqImmRd0 (o : CmpImmOperands)
  | teqImmRd15 (o : CmpImmOperands)
  | cmpImmRd0 (o : CmpImmOperands)
  | cmpImmRd15 (o : CmpImmOperands)
  | cmnImmRd0 (o : CmpImmOperands)
  | cmnImmRd15 (o : CmpImmOperands)
  | orrImm (o : AluImmOperands)
  | movImm (o : AluImmOperands)
  | bicImm (o : AluImmOperands)
  | mvnImm (o : AluImmOperands)
  -- PSR_IMM, type 4 (R83)
  | psrImm (o : PsrImmFields)
  -- PSR_REG, type 5 (R84)
  | psrReg (o : PsrRegFields)
  -- BRANCH_EXCHANGE, type 6 (R85)
  | bx (o : BranchExchangeOperands)
  | blx (o : BranchExchangeOperands)
  -- MULTIPLY, type 7 (R90)
  | mul (o : MultiplyOperands)
  | mla (o : MultiplyOperands)
  | umaal (o : MultiplyOperands)
  | mulOp3Unassigned (o : MultiplyOperands)
  -- MULTIPLY_LONG, type 8 (R91)
  | umull (o : MultiplyLongOperands)
  | umlal (o : MultiplyLongOperands)
  | smull (o : MultiplyLongOperands)
  | smlal (o : MultiplyLongOperands)
  -- SWAP, type 9 (R92)
  | swap (o : SwapFields)
  -- HALFWORD_REG, type 10 (R93)
  | halfwordReg (o : HalfwordRegFields)
  -- HALFWORD_IMM, type 11 (R94)
  | halfwordImm (o : HalfwordImmFields)
  -- TRANSFER_REG, type 12 (R95)
  | transferReg (o : TransferRegFields)
  -- TRANSFER_IMM, type 13 (R96)
  | transferImm (o : TransferImmFields)
  -- UNDEFINED, type 14 (R97)
  | undefined (o : UndefinedFields)
  -- BLOCK_TRANSFER, type 15 (R98)
  | blockTransfer (o : BlockTransferFields)
  -- BRANCH, type 16 (R100)
  | b (o : BranchOperands)
  | bl (o : BranchOperands)
  -- COPROC_DATA_TRANSFER, type 17 (R101)
  | coprocDataTransfer (o : CoprocDataTransferFields)
  -- COPROC_DATA_OP, type 18 (R102)
  | coprocDataOp (o : CoprocDataOpFields)
  -- COPROC_REG_TRANSFER, type 19 (R103)
  | coprocRegTransfer (o : CoprocRegTransferFields)
  -- SOFTWARE_INTERRUPT, type 20 (R104)
  | softwareInterrupt (o : SoftwareInterruptFields)
  deriving DecidableEq, Repr

end Sys2Proof
end

