-- ==== Sys2Proof/WellFormed.lean ====
section
/-! DEFINITION. Well-formed instructions. Every operand value of every row is an encoding of that row, but for the two
halfword formats: a halfword word that an earlier filter (multiply, long multiply, swap) validly matches is classified
by that filter (R69, R74), so those operand values are no halfword transfer (R93, R94). -/

namespace Sys2Proof

/-- `opcode[24] = 0` and `opcode[6:5] = 0`: with `opcode[7] = opcode[4] = 1` this is a multiply word (R90, R91, R93). -/
def HalfwordRegFields.isMultiply (f : HalfwordRegFields) : Bool := f.p == 0 && f.sh == 0

/-- `opcode[24:23] = 0b10`, `opcode[21:20] = 0`, `opcode[6:5] = 0`: a swap word (R92, R93). -/
def HalfwordRegFields.isSwap (f : HalfwordRegFields) : Bool :=
  f.p == 1 && f.u == 0 && f.w == 0 && f.l == 0 && f.sh == 0

/-- `opcode[24] = 0` and `opcode[6:5] = 0`: a multiply word (R90, R91, R94). -/
def HalfwordImmFields.isMultiply (f : HalfwordImmFields) : Bool := f.p == 0 && f.sh == 0

/-- `opcode[24:23] = 0b10`, `opcode[21:20] = 0`, `opcode[11:8] = 0`, `opcode[6:5] = 0`: a swap word (R92, R94). -/
def HalfwordImmFields.isSwap (f : HalfwordImmFields) : Bool :=
  f.p == 1 && f.u == 0 && f.w == 0 && f.l == 0 && f.offsetHi == 0 && f.sh == 0

/-- The instruction is what its own encoding is classified as (R74, R93, R94). -/
def Instr.wellFormed : Instr → Bool
  | .halfwordReg f => !f.isMultiply && !f.isSwap
  | .halfwordImm f => !f.isMultiply && !f.isSwap
  | .andRegShiftImm _ | .eorRegShiftImm _ | .subRegShiftImm _ | .rsbRegShiftImm _ | .addRegShiftImm _
  | .adcRegShiftImm _ | .sbcRegShiftImm _ | .rscRegShiftImm _ | .tstRegShiftImmRd0 _ | .tstRegShiftImmRd15 _
  | .teqRegShiftImmRd0 _ | .teqRegShiftImmRd15 _ | .cmpRegShiftImmRd0 _ | .cmpRegShiftImmRd15 _
  | .cmnRegShiftImmRd0 _ | .cmnRegShiftImmRd15 _ | .orrRegShiftImm _ | .movRegShiftImm _ | .bicRegShiftImm _
  | .mvnRegShiftImm _ | .andRegShiftReg _ | .eorRegShiftReg _ | .subRegShiftReg _ | .rsbRegShiftReg _
  | .addRegShiftReg _ | .adcRegShiftReg _ | .sbcRegShiftReg _ | .rscRegShiftReg _ | .tstRegShiftRegRd0 _
  | .tstRegShiftRegRd15 _ | .teqRegShiftRegRd0 _ | .teqRegShiftRegRd15 _ | .cmpRegShiftRegRd0 _
  | .cmpRegShiftRegRd15 _ | .cmnRegShiftRegRd0 _ | .cmnRegShiftRegRd15 _ | .orrRegShiftReg _
  | .movRegShiftReg _ | .bicRegShiftReg _ | .mvnRegShiftReg _ | .andImm _ | .eorImm _ | .subImm _ | .rsbImm _
  | .addImm _ | .adcImm _ | .sbcImm _ | .rscImm _ | .tstImmRd0 _ | .tstImmRd15 _ | .teqImmRd0 _
  | .teqImmRd15 _ | .cmpImmRd0 _ | .cmpImmRd15 _ | .cmnImmRd0 _ | .cmnImmRd15 _ | .orrImm _ | .movImm _
  | .bicImm _ | .mvnImm _ | .psrImm _ | .psrReg _ | .bx _ | .blx _ | .mul _ | .mla _ | .umaal _
  | .mulOp3Unassigned _ | .umull _ | .umlal _ | .smull _ | .smlal _ | .swap _ | .transferReg _
  | .transferImm _ | .undefined _ | .blockTransfer _ | .b _ | .bl _ | .coprocDataTransfer _ | .coprocDataOp _
  | .coprocRegTransfer _ | .softwareInterrupt _ => true

end Sys2Proof
end

