-- ==== Sys2Proof/Decode.lean ====
section
/-! DEFINITION. DEC, the instruction classifier (40_classifier.md of spec/) over the filter table of 30_encoding.md: the
pattern classifier, the validator, first-match selection and the field extractor; then the decoder from a word to the
opcode-table row it is, and after it the encoder. -/

namespace Sys2Proof

/-! ## Bits -/

/-- `w[hi:lo]` as the source writes it, `(opcode >> low) & ((1 << (high-low+1)) - 1)` (R9, R75). -/
def bits (w : Word) (hi lo : Nat) : Word := (w >>> lo) &&& ((1#32 <<< (hi - lo + 1)) - 1#32)

/-! ## The filter table (R61 to R64) -/

/-- A control-bit constraint `(high_bit, low_bit, expected_value)` (R63). -/
structure ControlBits where
  hi : Nat
  lo : Nat
  expected : Word
  deriving DecidableEq, Repr

/-- A field extractor `(high_bit, low_bit, name)` (R63). -/
structure FieldExtractor where
  name : FieldName
  hi : Nat
  lo : Nat
  deriving DecidableEq, Repr

/-- An InstructionFilter: control-bit constraints and field extractors, with the type it selects (R63, R64). -/
structure Filter where
  kind : Kind
  controls : List ControlBits
  extractors : List FieldExtractor
  deriving DecidableEq, Repr

/-- Filter 1, `ALU_REG_SHIFT_IMM` (R61, R62). -/
def filterAluRegShiftImm : Filter :=
  ⟨.aluRegShiftImm, [⟨27, 25, 0b000⟩, ⟨4, 4, 0b0⟩],
    [ ⟨.cond, 31, 28⟩, ⟨.op, 24, 21⟩, ⟨.s, 20, 20⟩, ⟨.rn, 19, 16⟩, ⟨.rd, 15, 12⟩, ⟨.shiftAmount, 11, 7⟩,
      ⟨.shiftType, 6, 5⟩, ⟨.rm, 3, 0⟩ ]⟩

/-- Filter 2, `ALU_REG_SHIFT_REG` (R61, R62). -/
def filterAluRegShiftReg : Filter :=
  ⟨.aluRegShiftReg, [⟨27, 25, 0b000⟩, ⟨7, 7, 0b0⟩, ⟨4, 4, 0b1⟩],
    [ ⟨.cond, 31, 28⟩, ⟨.op, 24, 21⟩, ⟨.s, 20, 20⟩, ⟨.rn, 19, 16⟩, ⟨.rd, 15, 12⟩, ⟨.rs, 11, 8⟩,
      ⟨.shiftType, 6, 5⟩, ⟨.rm, 3, 0⟩ ]⟩

/-- Filter 3, `ALU_IMM` (R61, R62). -/
def filterAluImm : Filter :=
  ⟨.aluImm, [⟨27, 25, 0b001⟩],
    [ ⟨.cond, 31, 28⟩, ⟨.op, 24, 21⟩, ⟨.s, 20, 20⟩, ⟨.rn, 19, 16⟩, ⟨.rd, 15, 12⟩, ⟨.rotate, 11, 8⟩,
      ⟨.imm, 7, 0⟩ ]⟩

/-- Filter 4, `PSR_IMM` (R61, R62). -/
def filterPsrImm : Filter :=
  ⟨.psrImm, [⟨27, 23, 0b00110⟩, ⟨21, 20, 0b10⟩],
    [ ⟨.cond, 31, 28⟩, ⟨.psr, 22, 22⟩, ⟨.fieldMask, 19, 16⟩, ⟨.rd, 15, 12⟩, ⟨.rotate, 11, 8⟩, ⟨.imm, 7, 0⟩ ]⟩

/-- Filter 5, `PSR_REG` (R61, R62). -/
def filterPsrReg : Filter :=
  ⟨.psrReg, [⟨27, 23, 0b00010⟩, ⟨20, 20, 0b0⟩, ⟨11, 4, 0b00000000⟩],
    [ ⟨.cond, 31, 28⟩, ⟨.psr, 22, 22⟩, ⟨.msr, 21, 21⟩, ⟨.fieldMask, 19, 16⟩, ⟨.rd, 15, 12⟩, ⟨.rm, 3, 0⟩ ]⟩

/-- Filter 6, `BRANCH_EXCHANGE` (R61, R62). -/
def filterBranchExchange : Filter :=
  ⟨.branchExchange, [⟨27, 8, 0x12fff⟩, ⟨7, 6, 0b00⟩, ⟨4, 4, 0b1⟩],
    [ ⟨.cond, 31, 28⟩, ⟨.l, 5, 5⟩, ⟨.rn, 3, 0⟩ ]⟩

/-- Filter 7, `MULTIPLY` (R61, R62). -/
def filterMultiply : Filter :=
  ⟨.multiply, [⟨27, 23, 0b00000⟩, ⟨7, 4, 0b1001⟩],
    [ ⟨.cond, 31, 28⟩, ⟨.op, 23, 21⟩, ⟨.s, 20, 20⟩, ⟨.rd, 19, 16⟩, ⟨.rn, 15, 12⟩, ⟨.rs, 11, 8⟩,
      ⟨.rm, 3, 0⟩ ]⟩

/-- Filter 8, `MULTIPLY_LONG` (R61, R62). -/
def filterMultiplyLong : Filter :=
  ⟨.multiplyLong, [⟨27, 23, 0b00001⟩, ⟨7, 4, 0b1001⟩],
    [ ⟨.cond, 31, 28⟩, ⟨.op, 23, 21⟩, ⟨.s, 20, 20⟩, ⟨.rdHi, 19, 16⟩, ⟨.rdLo, 15, 12⟩, ⟨.rs, 11, 8⟩,
      ⟨.rm, 3, 0⟩ ]⟩

/-- Filter 9, `SWAP` (R61, R62). -/
def filterSwap : Filter :=
  ⟨.swap, [⟨27, 23, 0b00010⟩, ⟨21, 20, 0b00⟩, ⟨11, 4, 0b00001001⟩],
    [ ⟨.cond, 31, 28⟩, ⟨.b, 22, 22⟩, ⟨.rn, 19, 16⟩, ⟨.rd, 15, 12⟩, ⟨.rm, 3, 0⟩ ]⟩

/-- Filter 10, `HALFWORD_REG` (R61, R62). -/
def filterHalfwordReg : Filter :=
  ⟨.halfwordReg, [⟨27, 25, 0b000⟩, ⟨22, 22, 0b0⟩, ⟨11, 8, 0b0000⟩, ⟨7, 7, 0b1⟩, ⟨4, 4, 0b1⟩],
    [ ⟨.cond, 31, 28⟩, ⟨.p, 24, 24⟩, ⟨.u, 23, 23⟩, ⟨.w, 21, 21⟩, ⟨.l, 20, 20⟩, ⟨.rn, 19, 16⟩,
      ⟨.rd, 15, 12⟩, ⟨.sh, 6, 5⟩, ⟨.rm, 3, 0⟩ ]⟩

/-- Filter 11, `HALFWORD_IMM` (R61, R62). -/
def filterHalfwordImm : Filter :=
  ⟨.halfwordImm, [⟨27, 25, 0b000⟩, ⟨22, 22, 0b1⟩, ⟨7, 7, 0b1⟩, ⟨4, 4, 0b1⟩],
    [ ⟨.cond, 31, 28⟩, ⟨.p, 24, 24⟩, ⟨.u, 23, 23⟩, ⟨.w, 21, 21⟩, ⟨.l, 20, 20⟩, ⟨.rn, 19, 16⟩,
      ⟨.rd, 15, 12⟩, ⟨.offsetHi, 11, 8⟩, ⟨.sh, 6, 5⟩, ⟨.offsetLo, 3, 0⟩ ]⟩

/-- Filter 12, `TRANSFER_REG` (R61, R62). -/
def filterTransferReg : Filter :=
  ⟨.transferReg, [⟨27, 25, 0b011⟩, ⟨4, 4, 0b0⟩],
    [ ⟨.cond, 31, 28⟩, ⟨.p, 24, 24⟩, ⟨.u, 23, 23⟩, ⟨.b, 22, 22⟩, ⟨.w, 21, 21⟩, ⟨.l, 20, 20⟩, ⟨.rn, 19, 16⟩,
      ⟨.rd, 15, 12⟩, ⟨.shiftAmount, 11, 7⟩, ⟨.shiftType, 6, 5⟩, ⟨.rm, 3, 0⟩ ]⟩

/-- Filter 13, `TRANSFER_IMM` (R61, R62). -/
def filterTransferImm : Filter :=
  ⟨.transferImm, [⟨27, 25, 0b010⟩],
    [ ⟨.cond, 31, 28⟩, ⟨.p, 24, 24⟩, ⟨.u, 23, 23⟩, ⟨.b, 22, 22⟩, ⟨.w, 21, 21⟩, ⟨.l, 20, 20⟩, ⟨.rn, 19, 16⟩,
      ⟨.rd, 15, 12⟩, ⟨.offset, 11, 0⟩ ]⟩

/-- Filter 14, `UNDEFINED` (R61, R62). -/
def filterUndefined : Filter :=
  ⟨.undefined, [⟨27, 25, 0b011⟩, ⟨4, 4, 0b1⟩],
    [ ⟨.cond, 31, 28⟩ ]⟩

/-- Filter 15, `BLOCK_TRANSFER` (R61, R62). -/
def filterBlockTransfer : Filter :=
  ⟨.blockTransfer, [⟨27, 25, 0b100⟩],
    [ ⟨.cond, 31, 28⟩, ⟨.p, 24, 24⟩, ⟨.u, 23, 23⟩, ⟨.s, 22, 22⟩, ⟨.w, 21, 21⟩, ⟨.l, 20, 20⟩, ⟨.rn, 19, 16⟩,
      ⟨.registerList, 15, 0⟩ ]⟩

/-- Filter 16, `BRANCH` (R61, R62). -/
def filterBranch : Filter :=
  ⟨.branch, [⟨27, 25, 0b101⟩],
    [ ⟨.cond, 31, 28⟩, ⟨.l, 24, 24⟩, ⟨.offset, 23, 0⟩ ]⟩

/-- Filter 17, `COPROC_DATA_TRANSFER` (R61, R62). -/
def filterCoprocDataTransfer : Filter :=
  ⟨.coprocDataTransfer, [⟨27, 25, 0b110⟩],
    [ ⟨.cond, 31, 28⟩, ⟨.p, 24, 24⟩, ⟨.u, 23, 23⟩, ⟨.n, 22, 22⟩, ⟨.w, 21, 21⟩, ⟨.l, 20, 20⟩, ⟨.rn, 19, 16⟩,
      ⟨.crd, 15, 12⟩, ⟨.cpNum, 11, 8⟩, ⟨.offset, 7, 0⟩ ]⟩

/-- Filter 18, `COPROC_DATA_OP` (R61, R62). -/
def filterCoprocDataOp : Filter :=
  ⟨.coprocDataOp, [⟨27, 24, 0b1110⟩, ⟨4, 4, 0b0⟩],
    [ ⟨.cond, 31, 28⟩, ⟨.cpOpc, 23, 20⟩, ⟨.crn, 19, 16⟩, ⟨.crd, 15, 12⟩, ⟨.cpNum, 11, 8⟩, ⟨.cp, 7, 5⟩,
      ⟨.crm, 3, 0⟩ ]⟩

/-- Filter 19, `COPROC_REG_TRANSFER` (R61, R62). -/
def filterCoprocRegTransfer : Filter :=
  ⟨.coprocRegTransfer, [⟨27, 24, 0b1110⟩, ⟨4, 4, 0b1⟩],
    [ ⟨.cond, 31, 28⟩, ⟨.cpOpc, 23, 21⟩, ⟨.l, 20, 20⟩, ⟨.crn, 19, 16⟩, ⟨.rd, 15, 12⟩, ⟨.cpNum, 11, 8⟩,
      ⟨.cp, 7, 5⟩, ⟨.crm, 3, 0⟩ ]⟩

/-- Filter 20, `SOFTWARE_INTERRUPT` (R61, R62). -/
def filterSoftwareInterrupt : Filter :=
  ⟨.softwareInterrupt, [⟨27, 24, 0b1111⟩],
    [ ⟨.cond, 31, 28⟩, ⟨.comment, 23, 0⟩ ]⟩

/-- The twenty filters in priority order (R64). -/
def filters : List Filter :=
  [filterAluRegShiftImm, filterAluRegShiftReg, filterAluImm, filterPsrImm, filterPsrReg]
  ++ [filterBranchExchange, filterMultiply, filterMultiplyLong, filterSwap]
  ++ [filterHalfwordReg, filterHalfwordImm, filterTransferReg, filterTransferImm]
  ++ [filterUndefined, filterBlockTransfer, filterBranch, filterCoprocDataTransfer]
  ++ [filterCoprocDataOp, filterCoprocRegTransfer, filterSoftwareInterrupt]

/-- The type code: the priority index, 0 for UNKNOWN (R64, D6). -/
def Kind.code : Kind → Nat
  | .unknown => 0
  | .aluRegShiftImm => 1
  | .aluRegShiftReg => 2
  | .aluImm => 3
  | .psrImm => 4
  | .psrReg => 5
  | .branchExchange => 6
  | .multiply => 7
  | .multiplyLong => 8
  | .swap => 9
  | .halfwordReg => 10
  | .halfwordImm => 11
  | .transferReg => 12
  | .transferImm => 13
  | .undefined => 14
  | .blockTransfer => 15
  | .branch => 16
  | .coprocDataTransfer => 17
  | .coprocDataOp => 18
  | .coprocRegTransfer => 19
  | .softwareInterrupt => 20

/-! ## The pattern classifier, the validator and the selection (R71 to R77) -/

/-- `bits_equal`: a control constraint holds for a word (R71). -/
def ControlBits.holds (c : ControlBits) (w : Word) : Bool := bits w c.hi c.lo == c.expected

/-- A filter is a candidate iff every control constraint holds (R71). -/
def Filter.candidate (f : Filter) (w : Word) : Bool := f.controls.all (·.holds w)

/-- The validity refinement of the three ALU formats (R73): the compare class needs `S` = 1 and `Rd` 0 or 15. -/
def aluValid (w : Word) : Bool :=
  if 0x8 ≤ bits w 24 21 ∧ bits w 24 21 ≤ 0xB then
    bits w 20 20 == 1 && (bits w 15 12 == 0 || bits w 15 12 == 15)
  else true

/-- The validity refinement applies to filters 1, 2 and 3 and to no other (R72, R73). -/
def Kind.needsAluValid : Kind → Bool
  | .aluRegShiftImm | .aluRegShiftReg | .aluImm => true
  | .unknown | .psrImm | .psrReg | .branchExchange | .multiply | .multiplyLong | .swap | .halfwordReg
  | .halfwordImm | .transferReg | .transferImm | .undefined | .blockTransfer | .branch | .coprocDataTransfer
  | .coprocDataOp | .coprocRegTransfer | .softwareInterrupt => false

/-- A valid match: a candidate that passes the validity refinement where it applies (R72). -/
def Filter.validMatch (f : Filter) (w : Word) : Bool :=
  f.candidate w && (!f.kind.needsAluValid || aluValid w)

/-- The types of the filters that validly match, in priority order (R72). -/
def validMatches (w : Word) : List Kind := (filters.filter (·.validMatch w)).map (·.kind)

/-- The status output `match_vec` (R70, R72); filter i stands at bit i - 1 (log entry 13). -/
def matchVec (w : Word) : BitVec 20 :=
  (validMatches w).foldl (fun v k => v ||| (1#20 <<< (k.code - 1))) 0

/-- The status output `multi_match` (R77). -/
def multiMatch (w : Word) : Bool := decide (1 < (validMatches w).length)

/-- The selected filter: the first valid match (R74). -/
def selected (w : Word) : Option Filter := filters.find? (·.validMatch w)

/-- The type of a word: that of the first valid match, UNKNOWN if there is none (R74, R76). -/
def kindOf (w : Word) : Kind :=
  match selected w with
  | some f => f.kind
  | none => .unknown

/-! ## The field extractor (R75) -/

/-- The field map of a word under a filter, as R75 computes it. -/
def Filter.extract (f : Filter) (w : Word) : List (FieldName × Word) :=
  f.extractors.map fun e => (e.name, bits w e.hi e.lo)

/-- The field map of a word: that of the selected filter, empty for UNKNOWN (R75, R76). -/
def fieldsOf (w : Word) : List (FieldName × Word) :=
  match selected w with
  | some f => f.extract w
  | none => []

/-- The fields of a word as the record of its type (R62, R75). -/
def extractAs (k : Kind) (w : Word) : Classification :=
  match k with
  | .unknown => .unknown
  | .aluRegShiftImm => .aluRegShiftImm
      { cond := w.extractLsb' 28 4, op := w.extractLsb' 21 4, s := w.extractLsb' 20 1,
        rn := w.extractLsb' 16 4, rd := w.extractLsb' 12 4, shiftAmount := w.extractLsb' 7 5,
        shiftType := w.extractLsb' 5 2, rm := w.extractLsb' 0 4 }
  | .aluRegShiftReg => .aluRegShiftReg
      { cond := w.extractLsb' 28 4, op := w.extractLsb' 21 4, s := w.extractLsb' 20 1,
        rn := w.extractLsb' 16 4, rd := w.extractLsb' 12 4, rs := w.extractLsb' 8 4,
        shiftType := w.extractLsb' 5 2, rm := w.extractLsb' 0 4 }
  | .aluImm => .aluImm
      { cond := w.extractLsb' 28 4, op := w.extractLsb' 21 4, s := w.extractLsb' 20 1,
        rn := w.extractLsb' 16 4, rd := w.extractLsb' 12 4, rotate := w.extractLsb' 8 4,
        imm := w.extractLsb' 0 8 }
  | .psrImm => .psrImm
      { cond := w.extractLsb' 28 4, psr := w.extractLsb' 22 1, fieldMask := w.extractLsb' 16 4,
        rd := w.extractLsb' 12 4, rotate := w.extractLsb' 8 4, imm := w.extractLsb' 0 8 }
  | .psrReg => .psrReg
      { cond := w.extractLsb' 28 4, psr := w.extractLsb' 22 1, msr := w.extractLsb' 21 1,
        fieldMask := w.extractLsb' 16 4, rd := w.extractLsb' 12 4, rm := w.extractLsb' 0 4 }
  | .branchExchange => .branchExchange
      { cond := w.extractLsb' 28 4, l := w.extractLsb' 5 1, rn := w.extractLsb' 0 4 }
  | .multiply => .multiply
      { cond := w.extractLsb' 28 4, op := w.extractLsb' 21 3, s := w.extractLsb' 20 1,
        rd := w.extractLsb' 16 4, rn := w.extractLsb' 12 4, rs := w.extractLsb' 8 4, rm := w.extractLsb' 0 4 }
  | .multiplyLong => .multiplyLong
      { cond := w.extractLsb' 28 4, op := w.extractLsb' 21 3, s := w.extractLsb' 20 1,
        rdHi := w.extractLsb' 16 4, rdLo := w.extractLsb' 12 4, rs := w.extractLsb' 8 4,
        rm := w.extractLsb' 0 4 }
  | .swap => .swap
      { cond := w.extractLsb' 28 4, b := w.extractLsb' 22 1, rn := w.extractLsb' 16 4,
        rd := w.extractLsb' 12 4, rm := w.extractLsb' 0 4 }
  | .halfwordReg => .halfwordReg
      { cond := w.extractLsb' 28 4, p := w.extractLsb' 24 1, u := w.extractLsb' 23 1,
        w := w.extractLsb' 21 1, l := w.extractLsb' 20 1, rn := w.extractLsb' 16 4, rd := w.extractLsb' 12 4,
        sh := w.extractLsb' 5 2, rm := w.extractLsb' 0 4 }
  | .halfwordImm => .halfwordImm
      { cond := w.extractLsb' 28 4, p := w.extractLsb' 24 1, u := w.extractLsb' 23 1,
        w := w.extractLsb' 21 1, l := w.extractLsb' 20 1, rn := w.extractLsb' 16 4, rd := w.extractLsb' 12 4,
        offsetHi := w.extractLsb' 8 4, sh := w.extractLsb' 5 2, offsetLo := w.extractLsb' 0 4 }
  | .transferReg => .transferReg
      { cond := w.extractLsb' 28 4, p := w.extractLsb' 24 1, u := w.extractLsb' 23 1,
        b := w.extractLsb' 22 1, w := w.extractLsb' 21 1, l := w.extractLsb' 20 1, rn := w.extractLsb' 16 4,
        rd := w.extractLsb' 12 4, shiftAmount := w.extractLsb' 7 5, shiftType := w.extractLsb' 5 2,
        rm := w.extractLsb' 0 4 }
  | .transferImm => .transferImm
      { cond := w.extractLsb' 28 4, p := w.extractLsb' 24 1, u := w.extractLsb' 23 1,
        b := w.extractLsb' 22 1, w := w.extractLsb' 21 1, l := w.extractLsb' 20 1, rn := w.extractLsb' 16 4,
        rd := w.extractLsb' 12 4, offset := w.extractLsb' 0 12 }
  | .undefined => .undefined
      { cond := w.extractLsb' 28 4 }
  | .blockTransfer => .blockTransfer
      { cond := w.extractLsb' 28 4, p := w.extractLsb' 24 1, u := w.extractLsb' 23 1,
        s := w.extractLsb' 22 1, w := w.extractLsb' 21 1, l := w.extractLsb' 20 1, rn := w.extractLsb' 16 4,
        registerList := w.extractLsb' 0 16 }
  | .branch => .branch
      { cond := w.extractLsb' 28 4, l := w.extractLsb' 24 1, offset := w.extractLsb' 0 24 }
  | .coprocDataTransfer => .coprocDataTransfer
      { cond := w.extractLsb' 28 4, p := w.extractLsb' 24 1, u := w.extractLsb' 23 1,
        n := w.extractLsb' 22 1, w := w.extractLsb' 21 1, l := w.extractLsb' 20 1, rn := w.extractLsb' 16 4,
        crd := w.extractLsb' 12 4, cpNum := w.extractLsb' 8 4, offset := w.extractLsb' 0 8 }
  | .coprocDataOp => .coprocDataOp
      { cond := w.extractLsb' 28 4, cpOpc := w.extractLsb' 20 4, crn := w.extractLsb' 16 4,
        crd := w.extractLsb' 12 4, cpNum := w.extractLsb' 8 4, cp := w.extractLsb' 5 3,
        crm := w.extractLsb' 0 4 }
  | .coprocRegTransfer => .coprocRegTransfer
      { cond := w.extractLsb' 28 4, cpOpc := w.extractLsb' 21 3, l := w.extractLsb' 20 1,
        crn := w.extractLsb' 16 4, rd := w.extractLsb' 12 4, cpNum := w.extractLsb' 8 4,
        cp := w.extractLsb' 5 3, crm := w.extractLsb' 0 4 }
  | .softwareInterrupt => .softwareInterrupt
      { cond := w.extractLsb' 28 4, comment := w.extractLsb' 0 24 }

/-- `classify`: the type of a word and the fields of that type (R70, R74, R75). -/
def classify (w : Word) : Classification := extractAs (kindOf w) w

/-- The type of a classification (R64). -/
def Classification.kind : Classification → Kind
  | .unknown => .unknown
  | .aluRegShiftImm _ => .aluRegShiftImm
  | .aluRegShiftReg _ => .aluRegShiftReg
  | .aluImm _ => .aluImm
  | .psrImm _ => .psrImm
  | .psrReg _ => .psrReg
  | .branchExchange _ => .branchExchange
  | .multiply _ => .multiply
  | .multiplyLong _ => .multiplyLong
  | .swap _ => .swap
  | .halfwordReg _ => .halfwordReg
  | .halfwordImm _ => .halfwordImm
  | .transferReg _ => .transferReg
  | .transferImm _ => .transferImm
  | .undefined _ => .undefined
  | .blockTransfer _ => .blockTransfer
  | .branch _ => .branch
  | .coprocDataTransfer _ => .coprocDataTransfer
  | .coprocDataOp _ => .coprocDataOp
  | .coprocRegTransfer _ => .coprocRegTransfer
  | .softwareInterrupt _ => .softwareInterrupt

/-- The field map of a classification: field names with their values as unsigned 32-bit numbers (R16, R75). -/
def Classification.fieldMap : Classification → List (FieldName × Word)
  | .unknown => []
  | .aluRegShiftImm f =>
      [ (.cond, f.cond.setWidth 32), (.op, f.op.setWidth 32), (.s, f.s.setWidth 32), (.rn, f.rn.setWidth 32),
        (.rd, f.rd.setWidth 32), (.shiftAmount, f.shiftAmount.setWidth 32),
        (.shiftType, f.shiftType.setWidth 32), (.rm, f.rm.setWidth 32) ]
  | .aluRegShiftReg f =>
      [ (.cond, f.cond.setWidth 32), (.op, f.op.setWidth 32), (.s, f.s.setWidth 32), (.rn, f.rn.setWidth 32),
        (.rd, f.rd.setWidth 32), (.rs, f.rs.setWidth 32), (.shiftType, f.shiftType.setWidth 32),
        (.rm, f.rm.setWidth 32) ]
  | .aluImm f =>
      [ (.cond, f.cond.setWidth 32), (.op, f.op.setWidth 32), (.s, f.s.setWidth 32), (.rn, f.rn.setWidth 32),
        (.rd, f.rd.setWidth 32), (.rotate, f.rotate.setWidth 32), (.imm, f.imm.setWidth 32) ]
  | .psrImm f =>
      [ (.cond, f.cond.setWidth 32), (.psr, f.psr.setWidth 32), (.fieldMask, f.fieldMask.setWidth 32),
        (.rd, f.rd.setWidth 32), (.rotate, f.rotate.setWidth 32), (.imm, f.imm.setWidth 32) ]
  | .psrReg f =>
      [ (.cond, f.cond.setWidth 32), (.psr, f.psr.setWidth 32), (.msr, f.msr.setWidth 32),
        (.fieldMask, f.fieldMask.setWidth 32), (.rd, f.rd.setWidth 32), (.rm, f.rm.setWidth 32) ]
  | .branchExchange f =>
      [ (.cond, f.cond.setWidth 32), (.l, f.l.setWidth 32), (.rn, f.rn.setWidth 32) ]
  | .multiply f =>
      [ (.cond, f.cond.setWidth 32), (.op, f.op.setWidth 32), (.s, f.s.setWidth 32), (.rd, f.rd.setWidth 32),
        (.rn, f.rn.setWidth 32), (.rs, f.rs.setWidth 32), (.rm, f.rm.setWidth 32) ]
  | .multiplyLong f =>
      [ (.cond, f.cond.setWidth 32), (.op, f.op.setWidth 32), (.s, f.s.setWidth 32),
        (.rdHi, f.rdHi.setWidth 32), (.rdLo, f.rdLo.setWidth 32), (.rs, f.rs.setWidth 32),
        (.rm, f.rm.setWidth 32) ]
  | .swap f =>
      [ (.cond, f.cond.setWidth 32), (.b, f.b.setWidth 32), (.rn, f.rn.setWidth 32), (.rd, f.rd.setWidth 32),
        (.rm, f.rm.setWidth 32) ]
  | .halfwordReg f =>
      [ (.cond, f.cond.setWidth 32), (.p, f.p.setWidth 32), (.u, f.u.setWidth 32), (.w, f.w.setWidth 32),
        (.l, f.l.setWidth 32), (.rn, f.rn.setWidth 32), (.rd, f.rd.setWidth 32), (.sh, f.sh.setWidth 32),
        (.rm, f.rm.setWidth 32) ]
  | .halfwordImm f =>
      [ (.cond, f.cond.setWidth 32), (.p, f.p.setWidth 32), (.u, f.u.setWidth 32), (.w, f.w.setWidth 32),
        (.l, f.l.setWidth 32), (.rn, f.rn.setWidth 32), (.rd, f.rd.setWidth 32),
        (.offsetHi, f.offsetHi.setWidth 32), (.sh, f.sh.setWidth 32), (.offsetLo, f.offsetLo.setWidth 32) ]
  | .transferReg f =>
      [ (.cond, f.cond.setWidth 32), (.p, f.p.setWidth 32), (.u, f.u.setWidth 32), (.b, f.b.setWidth 32),
        (.w, f.w.setWidth 32), (.l, f.l.setWidth 32), (.rn, f.rn.setWidth 32), (.rd, f.rd.setWidth 32),
        (.shiftAmount, f.shiftAmount.setWidth 32), (.shiftType, f.shiftType.setWidth 32),
        (.rm, f.rm.setWidth 32) ]
  | .transferImm f =>
      [ (.cond, f.cond.setWidth 32), (.p, f.p.setWidth 32), (.u, f.u.setWidth 32), (.b, f.b.setWidth 32),
        (.w, f.w.setWidth 32), (.l, f.l.setWidth 32), (.rn, f.rn.setWidth 32), (.rd, f.rd.setWidth 32),
        (.offset, f.offset.setWidth 32) ]
  | .undefined f =>
      [ (.cond, f.cond.setWidth 32) ]
  | .blockTransfer f =>
      [ (.cond, f.cond.setWidth 32), (.p, f.p.setWidth 32), (.u, f.u.setWidth 32), (.s, f.s.setWidth 32),
        (.w, f.w.setWidth 32), (.l, f.l.setWidth 32), (.rn, f.rn.setWidth 32),
        (.registerList, f.registerList.setWidth 32) ]
  | .branch f =>
      [ (.cond, f.cond.setWidth 32), (.l, f.l.setWidth 32), (.offset, f.offset.setWidth 32) ]
  | .coprocDataTransfer f =>
      [ (.cond, f.cond.setWidth 32), (.p, f.p.setWidth 32), (.u, f.u.setWidth 32), (.n, f.n.setWidth 32),
        (.w, f.w.setWidth 32), (.l, f.l.setWidth 32), (.rn, f.rn.setWidth 32), (.crd, f.crd.setWidth 32),
        (.cpNum, f.cpNum.setWidth 32), (.offset, f.offset.setWidth 32) ]
  | .coprocDataOp f =>
      [ (.cond, f.cond.setWidth 32), (.cpOpc, f.cpOpc.setWidth 32), (.crn, f.crn.setWidth 32),
        (.crd, f.crd.setWidth 32), (.cpNum, f.cpNum.setWidth 32), (.cp, f.cp.setWidth 32),
        (.crm, f.crm.setWidth 32) ]
  | .coprocRegTransfer f =>
      [ (.cond, f.cond.setWidth 32), (.cpOpc, f.cpOpc.setWidth 32), (.l, f.l.setWidth 32),
        (.crn, f.crn.setWidth 32), (.rd, f.rd.setWidth 32), (.cpNum, f.cpNum.setWidth 32),
        (.cp, f.cp.setWidth 32), (.crm, f.crm.setWidth 32) ]
  | .softwareInterrupt f =>
      [ (.cond, f.cond.setWidth 32), (.comment, f.comment.setWidth 32) ]

/-! ## DEC's ports (R70) -/

/-- The explicit result the source asks for: decoded, unknown or ambiguous (R70). -/
inductive DecResult where
  | decoded (c : Classification)
  | unknown
  | ambiguous (matchVec : BitVec 20)
  deriving DecidableEq, Repr

/-- The output ports of DEC (R70). -/
structure DecOutput where
  result : DecResult
  matchVec : BitVec 20
  multiMatch : Bool
  deriving DecidableEq, Repr

/-- The result port for a classification that stands (R70, R76). -/
def decResultOf : Classification → DecResult
  | .unknown => .unknown
  | c => .decoded c

/-- DEC as a block: the first match is taken and the multi-match surfaced; under `AMBIGUITY_FATAL` a multi-match word
is an ambiguity, with no type and no fields (R70, R77). -/
def dec (ambiguityFatal : Bool) (w : Word) : DecOutput :=
  { result := if ambiguityFatal && multiMatch w then .ambiguous (matchVec w) else decResultOf (classify w)
    matchVec := matchVec w
    multiMatch := multiMatch w }

/-! ## The mnemonic tables' keys (R112, R113) -/

/-- The ALU mnemonic table, keyed by the 4-bit `Op` (R112). -/
def aluName (op : BitVec 4) : AluName :=
  match op.toNat with
  | 0 => .and
  | 1 => .eor
  | 2 => .sub
  | 3 => .rsb
  | 4 => .add
  | 5 => .adc
  | 6 => .sbc
  | 7 => .rsc
  | 8 => .tst
  | 9 => .teq
  | 10 => .cmp
  | 11 => .cmn
  | 12 => .orr
  | 13 => .mov
  | 14 => .bic
  | _ => .mvn

/-- The multiply mnemonic table, keyed by the 3-bit `Op`; code 3 is unassigned (R113). -/
def mulName (op : BitVec 3) : Option MulName :=
  match op.toNat with
  | 0 => some .mul
  | 1 => some .mla
  | 2 => some .umaal
  | 4 => some .umull
  | 5 => some .umlal
  | 6 => some .smull
  | 7 => some .smlal
  | _ => none

/-! ## From a classification to its opcode-table row and back -/

/-- The operands a ALU_REG_SHIFT_IMM row leaves free (R80). -/
def AluRegShiftImmFields.operands (f : AluRegShiftImmFields) : AluRegShiftImmOperands :=
  { cond := f.cond, s := f.s, rn := f.rn, rd := f.rd, shiftAmount := f.shiftAmount, shiftType := f.shiftType, rm := f.rm }

/-- The operands a ALU_REG_SHIFT_IMM compare row leaves free (R73, R80). -/
def AluRegShiftImmFields.cmpOperands (f : AluRegShiftImmFields) : CmpRegShiftImmOperands :=
  { cond := f.cond, rn := f.rn, shiftAmount := f.shiftAmount, shiftType := f.shiftType, rm := f.rm }

/-- The fields of the row of code `op` (R80). -/
def AluRegShiftImmOperands.toFields (o : AluRegShiftImmOperands) (op : BitVec 4) : AluRegShiftImmFields :=
  { op := op, cond := o.cond, s := o.s, rn := o.rn, rd := o.rd, shiftAmount := o.shiftAmount, shiftType := o.shiftType, rm := o.rm }

/-- The fields of the compare row of code `op` with `Rd` = `rd`; the row fixes `S` = 1 (R73, R80). -/
def CmpRegShiftImmOperands.toFields (o : CmpRegShiftImmOperands) (op rd : BitVec 4) : AluRegShiftImmFields :=
  { op := op, s := 1, rd := rd, cond := o.cond, rn := o.rn, shiftAmount := o.shiftAmount, shiftType := o.shiftType, rm := o.rm }

/-- The operands a ALU_REG_SHIFT_REG row leaves free (R81). -/
def AluRegShiftRegFields.operands (f : AluRegShiftRegFields) : AluRegShiftRegOperands :=
  { cond := f.cond, s := f.s, rn := f.rn, rd := f.rd, rs := f.rs, shiftType := f.shiftType, rm := f.rm }

/-- The operands a ALU_REG_SHIFT_REG compare row leaves free (R73, R81). -/
def AluRegShiftRegFields.cmpOperands (f : AluRegShiftRegFields) : CmpRegShiftRegOperands :=
  { cond := f.cond, rn := f.rn, rs := f.rs, shiftType := f.shiftType, rm := f.rm }

/-- The fields of the row of code `op` (R81). -/
def AluRegShiftRegOperands.toFields (o : AluRegShiftRegOperands) (op : BitVec 4) : AluRegShiftRegFields :=
  { op := op, cond := o.cond, s := o.s, rn := o.rn, rd := o.rd, rs := o.rs, shiftType := o.shiftType, rm := o.rm }

/-- The fields of the compare row of code `op` with `Rd` = `rd`; the row fixes `S` = 1 (R73, R81). -/
def CmpRegShiftRegOperands.toFields (o : CmpRegShiftRegOperands) (op rd : BitVec 4) : AluRegShiftRegFields :=
  { op := op, s := 1, rd := rd, cond := o.cond, rn := o.rn, rs := o.rs, shiftType := o.shiftType, rm := o.rm }

/-- The operands a ALU_IMM row leaves free (R82). -/
def AluImmFields.operands (f : AluImmFields) : AluImmOperands :=
  { cond := f.cond, s := f.s, rn := f.rn, rd := f.rd, rotate := f.rotate, imm := f.imm }

/-- The operands a ALU_IMM compare row leaves free (R73, R82). -/
def AluImmFields.cmpOperands (f : AluImmFields) : CmpImmOperands :=
  { cond := f.cond, rn := f.rn, rotate := f.rotate, imm := f.imm }

/-- The fields of the row of code `op` (R82). -/
def AluImmOperands.toFields (o : AluImmOperands) (op : BitVec 4) : AluImmFields :=
  { op := op, cond := o.cond, s := o.s, rn := o.rn, rd := o.rd, rotate := o.rotate, imm := o.imm }

/-- The fields of the compare row of code `op` with `Rd` = `rd`; the row fixes `S` = 1 (R73, R82). -/
def CmpImmOperands.toFields (o : CmpImmOperands) (op rd : BitVec 4) : AluImmFields :=
  { op := op, s := 1, rd := rd, cond := o.cond, rn := o.rn, rotate := o.rotate, imm := o.imm }

/-- The operands BX and BLX leave free (R85). -/
def BranchExchangeFields.operands (f : BranchExchangeFields) : BranchExchangeOperands := { cond := f.cond, rn := f.rn }

/-- The fields of BX (`l` = 0) and BLX (`l` = 1) (R85). -/
def BranchExchangeOperands.toFields (o : BranchExchangeOperands) (l : BitVec 1) : BranchExchangeFields :=
  { cond := o.cond, l := l, rn := o.rn }

/-- The operands a short multiply row leaves free (R90). -/
def MultiplyFields.operands (f : MultiplyFields) : MultiplyOperands :=
  { cond := f.cond, s := f.s, rd := f.rd, rn := f.rn, rs := f.rs, rm := f.rm }

/-- The fields of the short multiply row of code `op` (R90). -/
def MultiplyOperands.toFields (o : MultiplyOperands) (op : BitVec 3) : MultiplyFields :=
  { op := op, cond := o.cond, s := o.s, rd := o.rd, rn := o.rn, rs := o.rs, rm := o.rm }

/-- The operands a long multiply row leaves free (R91). -/
def MultiplyLongFields.operands (f : MultiplyLongFields) : MultiplyLongOperands :=
  { cond := f.cond, s := f.s, rdHi := f.rdHi, rdLo := f.rdLo, rs := f.rs, rm := f.rm }

/-- The fields of the long multiply row of code `op` (R91). -/
def MultiplyLongOperands.toFields (o : MultiplyLongOperands) (op : BitVec 3) : MultiplyLongFields :=
  { op := op, cond := o.cond, s := o.s, rdHi := o.rdHi, rdLo := o.rdLo, rs := o.rs, rm := o.rm }

/-- The operands B and BL leave free (R100). -/
def BranchFields.operands (f : BranchFields) : BranchOperands := { cond := f.cond, offset := f.offset }

/-- The fields of B (`l` = 0) and BL (`l` = 1) (R100). -/
def BranchOperands.toFields (o : BranchOperands) (l : BitVec 1) : BranchFields :=
  { cond := o.cond, l := l, offset := o.offset }

/-- Of the two rows of a compare-class mnemonic, the one with this `S` and `Rd`, if either (R73). -/
def compareRow (s : BitVec 1) (rd : BitVec 4) (rd0 rd15 : Instr) : Option Instr :=
  if s == 1 && rd == 0 then some rd0 else if s == 1 && rd == 15 then some rd15 else none

/-- The opcode-table row of ALU_REG_SHIFT_IMM fields (R80, R112). -/
def AluRegShiftImmFields.toInstr? (f : AluRegShiftImmFields) : Option Instr :=
  match aluName f.op with
  | .and => some (.andRegShiftImm f.operands)
  | .eor => some (.eorRegShiftImm f.operands)
  | .sub => some (.subRegShiftImm f.operands)
  | .rsb => some (.rsbRegShiftImm f.operands)
  | .add => some (.addRegShiftImm f.operands)
  | .adc => some (.adcRegShiftImm f.operands)
  | .sbc => some (.sbcRegShiftImm f.operands)
  | .rsc => some (.rscRegShiftImm f.operands)
  | .tst => compareRow f.s f.rd (.tstRegShiftImmRd0 f.cmpOperands) (.tstRegShiftImmRd15 f.cmpOperands)
  | .teq => compareRow f.s f.rd (.teqRegShiftImmRd0 f.cmpOperands) (.teqRegShiftImmRd15 f.cmpOperands)
  | .cmp => compareRow f.s f.rd (.cmpRegShiftImmRd0 f.cmpOperands) (.cmpRegShiftImmRd15 f.cmpOperands)
  | .cmn => compareRow f.s f.rd (.cmnRegShiftImmRd0 f.cmpOperands) (.cmnRegShiftImmRd15 f.cmpOperands)
  | .orr => some (.orrRegShiftImm f.operands)
  | .mov => some (.movRegShiftImm f.operands)
  | .bic => some (.bicRegShiftImm f.operands)
  | .mvn => some (.mvnRegShiftImm f.operands)

/-- The opcode-table row of ALU_REG_SHIFT_REG fields (R81, R112). -/
def AluRegShiftRegFields.toInstr? (f : AluRegShiftRegFields) : Option Instr :=
  match aluName f.op with
  | .and => some (.andRegShiftReg f.operands)
  | .eor => some (.eorRegShiftReg f.operands)
  | .sub => some (.subRegShiftReg f.operands)
  | .rsb => some (.rsbRegShiftReg f.operands)
  | .add => some (.addRegShiftReg f.operands)
  | .adc => some (.adcRegShiftReg f.operands)
  | .sbc => some (.sbcRegShiftReg f.operands)
  | .rsc => some (.rscRegShiftReg f.operands)
  | .tst => compareRow f.s f.rd (.tstRegShiftRegRd0 f.cmpOperands) (.tstRegShiftRegRd15 f.cmpOperands)
  | .teq => compareRow f.s f.rd (.teqRegShiftRegRd0 f.cmpOperands) (.teqRegShiftRegRd15 f.cmpOperands)
  | .cmp => compareRow f.s f.rd (.cmpRegShiftRegRd0 f.cmpOperands) (.cmpRegShiftRegRd15 f.cmpOperands)
  | .cmn => compareRow f.s f.rd (.cmnRegShiftRegRd0 f.cmpOperands) (.cmnRegShiftRegRd15 f.cmpOperands)
  | .orr => some (.orrRegShiftReg f.operands)
  | .mov => some (.movRegShiftReg f.operands)
  | .bic => some (.bicRegShiftReg f.operands)
  | .mvn => some (.mvnRegShiftReg f.operands)

/-- The opcode-table row of ALU_IMM fields (R82, R112). -/
def AluImmFields.toInstr? (f : AluImmFields) : Option Instr :=
  match aluName f.op with
  | .and => some (.andImm f.operands)
  | .eor => some (.eorImm f.operands)
  | .sub => some (.subImm f.operands)
  | .rsb => some (.rsbImm f.operands)
  | .add => some (.addImm f.operands)
  | .adc => some (.adcImm f.operands)
  | .sbc => some (.sbcImm f.operands)
  | .rsc => some (.rscImm f.operands)
  | .tst => compareRow f.s f.rd (.tstImmRd0 f.cmpOperands) (.tstImmRd15 f.cmpOperands)
  | .teq => compareRow f.s f.rd (.teqImmRd0 f.cmpOperands) (.teqImmRd15 f.cmpOperands)
  | .cmp => compareRow f.s f.rd (.cmpImmRd0 f.cmpOperands) (.cmpImmRd15 f.cmpOperands)
  | .cmn => compareRow f.s f.rd (.cmnImmRd0 f.cmpOperands) (.cmnImmRd15 f.cmpOperands)
  | .orr => some (.orrImm f.operands)
  | .mov => some (.movImm f.operands)
  | .bic => some (.bicImm f.operands)
  | .mvn => some (.mvnImm f.operands)

/-- The opcode-table row of a classification; none for UNKNOWN, and for fields no word of the type has. -/
def Classification.toInstr? : Classification → Option Instr
  | .unknown => none
  | .aluRegShiftImm f => f.toInstr?
  | .aluRegShiftReg f => f.toInstr?
  | .aluImm f => f.toInstr?
  | .psrImm f => some (.psrImm f)
  | .psrReg f => some (.psrReg f)
  | .branchExchange f => if f.l == 1 then some (.blx f.operands) else some (.bx f.operands)
  | .multiply f =>
    match f.op.toNat with
    | 0 => some (.mul f.operands)
    | 1 => some (.mla f.operands)
    | 2 => some (.umaal f.operands)
    | 3 => some (.mulOp3Unassigned f.operands)
    | _ => none
  | .multiplyLong f =>
    match f.op.toNat with
    | 4 => some (.umull f.operands)
    | 5 => some (.umlal f.operands)
    | 6 => some (.smull f.operands)
    | 7 => some (.smlal f.operands)
    | _ => none
  | .swap f => some (.swap f)
  | .halfwordReg f => some (.halfwordReg f)
  | .halfwordImm f => some (.halfwordImm f)
  | .transferReg f => some (.transferReg f)
  | .transferImm f => some (.transferImm f)
  | .undefined f => some (.undefined f)
  | .blockTransfer f => some (.blockTransfer f)
  | .branch f => if f.l == 1 then some (.bl f.operands) else some (.b f.operands)
  | .coprocDataTransfer f => some (.coprocDataTransfer f)
  | .coprocDataOp f => some (.coprocDataOp f)
  | .coprocRegTransfer f => some (.coprocRegTransfer f)
  | .softwareInterrupt f => some (.softwareInterrupt f)

/-! ## The decoder -/

/-- The instruction a word is: the opcode-table row of its classification; none for an UNKNOWN word (R66, R74). -/
def decodeWord (w : Word) : Option Instr := (classify w).toInstr?

/-- Why the decoder answers no instruction. -/
inductive DecodeReject where
  /-- Fewer than four bytes are left. Raised by `decode`; the machine never does (it fetches whole words). -/
  | truncated (length : Nat)
  /-- The word is UNKNOWN: no filter validly matches it (R67, R76). Safe: the machine runs it as UNKNOWN (R105). -/
  | unknown (w : Word)
  deriving DecidableEq, Repr

/-- The word at four little-endian bytes (R39, R60). -/
def wordOfBytes (b0 b1 b2 b3 : Byte) : Word := b3 ++ b2 ++ b1 ++ b0

/-- The four bytes of a word, lowest address first (R39, R60). -/
def bytesOfWord (w : Word) : List Byte :=
  [w.extractLsb' 0 8, w.extractLsb' 8 8, w.extractLsb' 16 8, w.extractLsb' 24 8]

/-- The instruction at the front of a byte sequence and the rest of it; every instruction is one word (R60). -/
def decode : List Byte → Except DecodeReject (Instr × List Byte)
  | b0 :: b1 :: b2 :: b3 :: rest =>
    match decodeWord (wordOfBytes b0 b1 b2 b3) with
    | some i => .ok (i, rest)
    | none => .error (.unknown (wordOfBytes b0 b1 b2 b3))
  | bs => .error (.truncated bs.length)

/-- The word of `nbits` bits with value `w`, every higher bit 0. -/
def tableWord (nbits w : Nat) : Word := BitVec.ofNat 32 (w % 2 ^ nbits)

/-- The instruction the decoder reads from an opcode-table word, laid out in memory order. -/
def decodeTableWord (nbits w : Nat) : Option Instr :=
  match decode (bytesOfWord (tableWord nbits w)) with
  | .ok (i, _) => some i
  | .error _ => none

/-! ## The encoder: the patterns of R61 with the fields of R62, bit 31 first -/

/-- The classification of an instruction: its row's type, with the fields the row fixes and its operands. -/
def Instr.classification : Instr → Classification
  | .andRegShiftImm o => .aluRegShiftImm (o.toFields 0)
  | .eorRegShiftImm o => .aluRegShiftImm (o.toFields 1)
  | .subRegShiftImm o => .aluRegShiftImm (o.toFields 2)
  | .rsbRegShiftImm o => .aluRegShiftImm (o.toFields 3)
  | .addRegShiftImm o => .aluRegShiftImm (o.toFields 4)
  | .adcRegShiftImm o => .aluRegShiftImm (o.toFields 5)
  | .sbcRegShiftImm o => .aluRegShiftImm (o.toFields 6)
  | .rscRegShiftImm o => .aluRegShiftImm (o.toFields 7)
  | .tstRegShiftImmRd0 o => .aluRegShiftImm (o.toFields 8 0)
  | .tstRegShiftImmRd15 o => .aluRegShiftImm (o.toFields 8 15)
  | .teqRegShiftImmRd0 o => .aluRegShiftImm (o.toFields 9 0)
  | .teqRegShiftImmRd15 o => .aluRegShiftImm (o.toFields 9 15)
  | .cmpRegShiftImmRd0 o => .aluRegShiftImm (o.toFields 10 0)
  | .cmpRegShiftImmRd15 o => .aluRegShiftImm (o.toFields 10 15)
  | .cmnRegShiftImmRd0 o => .aluRegShiftImm (o.toFields 11 0)
  | .cmnRegShiftImmRd15 o => .aluRegShiftImm (o.toFields 11 15)
  | .orrRegShiftImm o => .aluRegShiftImm (o.toFields 12)
  | .movRegShiftImm o => .aluRegShiftImm (o.toFields 13)
  | .bicRegShiftImm o => .aluRegShiftImm (o.toFields 14)
  | .mvnRegShiftImm o => .aluRegShiftImm (o.toFields 15)
  | .andRegShiftReg o => .aluRegShiftReg (o.toFields 0)
  | .eorRegShiftReg o => .aluRegShiftReg (o.toFields 1)
  | .subRegShiftReg o => .aluRegShiftReg (o.toFields 2)
  | .rsbRegShiftReg o => .aluRegShiftReg (o.toFields 3)
  | .addRegShiftReg o => .aluRegShiftReg (o.toFields 4)
  | .adcRegShiftReg o => .aluRegShiftReg (o.toFields 5)
  | .sbcRegShiftReg o => .aluRegShiftReg (o.toFields 6)
  | .rscRegShiftReg o => .aluRegShiftReg (o.toFields 7)
  | .tstRegShiftRegRd0 o => .aluRegShiftReg (o.toFields 8 0)
  | .tstRegShiftRegRd15 o => .aluRegShiftReg (o.toFields 8 15)
  | .teqRegShiftRegRd0 o => .aluRegShiftReg (o.toFields 9 0)
  | .teqRegShiftRegRd15 o => .aluRegShiftReg (o.toFields 9 15)
  | .cmpRegShiftRegRd0 o => .aluRegShiftReg (o.toFields 10 0)
  | .cmpRegShiftRegRd15 o => .aluRegShiftReg (o.toFields 10 15)
  | .cmnRegShiftRegRd0 o => .aluRegShiftReg (o.toFields 11 0)
  | .cmnRegShiftRegRd15 o => .aluRegShiftReg (o.toFields 11 15)
  | .orrRegShiftReg o => .aluRegShiftReg (o.toFields 12)
  | .movRegShiftReg o => .aluRegShiftReg (o.toFields 13)
  | .bicRegShiftReg o => .aluRegShiftReg (o.toFields 14)
  | .mvnRegShiftReg o => .aluRegShiftReg (o.toFields 15)
  | .andImm o => .aluImm (o.toFields 0)
  | .eorImm o => .aluImm (o.toFields 1)
  | .subImm o => .aluImm (o.toFields 2)
  | .rsbImm o => .aluImm (o.toFields 3)
  | .addImm o => .aluImm (o.toFields 4)
  | .adcImm o => .aluImm (o.toFields 5)
  | .sbcImm o => .aluImm (o.toFields 6)
  | .rscImm o => .aluImm (o.toFields 7)
  | .tstImmRd0 o => .aluImm (o.toFields 8 0)
  | .tstImmRd15 o => .aluImm (o.toFields 8 15)
  | .teqImmRd0 o => .aluImm (o.toFields 9 0)
  | .teqImmRd15 o => .aluImm (o.toFields 9 15)
  | .cmpImmRd0 o => .aluImm (o.toFields 10 0)
  | .cmpImmRd15 o => .aluImm (o.toFields 10 15)
  | .cmnImmRd0 o => .aluImm (o.toFields 11 0)
  | .cmnImmRd15 o => .aluImm (o.toFields 11 15)
  | .orrImm o => .aluImm (o.toFields 12)
  | .movImm o => .aluImm (o.toFields 13)
  | .bicImm o => .aluImm (o.toFields 14)
  | .mvnImm o => .aluImm (o.toFields 15)
  | .psrImm o => .psrImm o
  | .psrReg o => .psrReg o
  | .bx o => .branchExchange (o.toFields 0)
  | .blx o => .branchExchange (o.toFields 1)
  | .mul o => .multiply (o.toFields 0)
  | .mla o => .multiply (o.toFields 1)
  | .umaal o => .multiply (o.toFields 2)
  | .mulOp3Unassigned o => .multiply (o.toFields 3)
  | .umull o => .multiplyLong (o.toFields 4)
  | .umlal o => .multiplyLong (o.toFields 5)
  | .smull o => .multiplyLong (o.toFields 6)
  | .smlal o => .multiplyLong (o.toFields 7)
  | .swap o => .swap o
  | .halfwordReg o => .halfwordReg o
  | .halfwordImm o => .halfwordImm o
  | .transferReg o => .transferReg o
  | .transferImm o => .transferImm o
  | .undefined o => .undefined o
  | .blockTransfer o => .blockTransfer o
  | .b o => .branch (o.toFields 0)
  | .bl o => .branch (o.toFields 1)
  | .coprocDataTransfer o => .coprocDataTransfer o
  | .coprocDataOp o => .coprocDataOp o
  | .coprocRegTransfer o => .coprocRegTransfer o
  | .softwareInterrupt o => .softwareInterrupt o

/-- The word of a classification. The bits of an UNDEFINED word that no field names (R97) are 0 here (log entry 18); an
UNKNOWN classification has no word of its own. -/
def Classification.word? : Classification → Option Word
  | .unknown => none
  | .aluRegShiftImm f => some (f.cond ++ 0b000#3 ++ f.op ++ f.s ++ f.rn ++ f.rd ++
      f.shiftAmount ++ f.shiftType ++ 0b0#1 ++ f.rm)
  | .aluRegShiftReg f => some (f.cond ++ 0b000#3 ++ f.op ++ f.s ++ f.rn ++ f.rd ++ f.rs ++
      0b0#1 ++ f.shiftType ++ 0b1#1 ++ f.rm)
  | .aluImm f => some (f.cond ++ 0b001#3 ++ f.op ++ f.s ++ f.rn ++ f.rd ++ f.rotate ++ f.imm)
  | .psrImm f => some (f.cond ++ 0b00110#5 ++ f.psr ++ 0b10#2 ++ f.fieldMask ++ f.rd ++ f.rotate ++ f.imm)
  | .psrReg f => some (f.cond ++ 0b00010#5 ++ f.psr ++ f.msr ++ 0b0#1 ++ f.fieldMask ++
      f.rd ++ 0b00000000#8 ++ f.rm)
  | .branchExchange f => some (f.cond ++ 0b0001001011111111111100#22 ++ f.l ++ 0b1#1 ++ f.rn)
  | .multiply f => some (f.cond ++ 0b0000#4 ++ f.op ++ f.s ++ f.rd ++ f.rn ++ f.rs ++ 0b1001#4 ++ f.rm)
  | .multiplyLong f => some (f.cond ++ 0b0000#4 ++ f.op ++ f.s ++ f.rdHi ++ f.rdLo ++ f.rs ++ 0b1001#4 ++ f.rm)
  | .swap f => some (f.cond ++ 0b00010#5 ++ f.b ++ 0b00#2 ++ f.rn ++ f.rd ++ 0b00001001#8 ++ f.rm)
  | .halfwordReg f => some (f.cond ++ 0b000#3 ++ f.p ++ f.u ++ 0b0#1 ++ f.w ++ f.l ++ f.rn ++
      f.rd ++ 0b00001#5 ++ f.sh ++ 0b1#1 ++ f.rm)
  | .halfwordImm f => some (f.cond ++ 0b000#3 ++ f.p ++ f.u ++ 0b1#1 ++ f.w ++ f.l ++ f.rn ++ f.rd ++
      f.offsetHi ++ 0b1#1 ++ f.sh ++ 0b1#1 ++ f.offsetLo)
  | .transferReg f => some (f.cond ++ 0b011#3 ++ f.p ++ f.u ++ f.b ++ f.w ++ f.l ++ f.rn ++
      f.rd ++ f.shiftAmount ++ f.shiftType ++ 0b0#1 ++ f.rm)
  | .transferImm f => some (f.cond ++ 0b010#3 ++ f.p ++ f.u ++ f.b ++ f.w ++ f.l ++ f.rn ++ f.rd ++ f.offset)
  | .undefined f => some (f.cond ++ 0b0110000000000000000000010000#28)
  | .blockTransfer f => some (f.cond ++ 0b100#3 ++ f.p ++ f.u ++ f.s ++ f.w ++ f.l ++ f.rn ++ f.registerList)
  | .branch f => some (f.cond ++ 0b101#3 ++ f.l ++ f.offset)
  | .coprocDataTransfer f => some (f.cond ++ 0b110#3 ++ f.p ++ f.u ++ f.n ++ f.w ++ f.l ++
      f.rn ++ f.crd ++ f.cpNum ++ f.offset)
  | .coprocDataOp f => some (f.cond ++ 0b1110#4 ++ f.cpOpc ++ f.crn ++ f.crd ++ f.cpNum ++ f.cp ++ 0b0#1 ++ f.crm)
  | .coprocRegTransfer f => some (f.cond ++ 0b1110#4 ++ f.cpOpc ++ f.l ++ f.crn ++ f.rd ++
      f.cpNum ++ f.cp ++ 0b1#1 ++ f.crm)
  | .softwareInterrupt f => some (f.cond ++ 0b1111#4 ++ f.comment)

/-- The word of an instruction (R61, R62). -/
def encode (i : Instr) : Word :=
  match i.classification.word? with
  | some w => w
  | none => 0

/-- The bytes of an instruction in memory order (R60). -/
def encodeBytes (i : Instr) : List Byte := bytesOfWord (encode i)

end Sys2Proof
end

