-- ==== Sys2Proof/Machine/State.lean ====
section
/-! DEFINITION. The state of the CORE as plain data (10_state.md of spec/), the errors it reports (60_exceptions.md), the
requests of the host and the output ports (R70, R110, R130, R150), and the state after reset (R21, R180). -/

namespace Sys2Proof.Machine

/-- The nine backing buffers of ASC (R17). -/
inductive Buffer where
  | bios | ewram | iwram | io | pal | vram | oam | rom | sram
  deriving DecidableEq, Repr

/-- The contents of the backing buffers. The cell of byte `i` of a buffer is the lowest address that locates it, so the
ROM buffer is stored once, at its first window (R34; log entry 15). -/
structure Memory where
  /-- The bytes given since the last reset, as (cell, byte) pairs, cells strictly rising; none for a byte that a filled
  buffer gives anyway (log entry 1). -/
  cells : List Host.Cell
  /-- Which reset it was: the number of the free content that lies under the entries (R181; log entry 1). -/
  draw : Nat
  /-- The buffers that a load has filled with 0xFF since that reset, by `Buffer.index` (R138, R139; log entry 16). -/
  filled : Vector Bool 9
  deriving DecidableEq, Repr

/-- The memory just after reset number `n`: no byte of it is given (R181). -/
def Memory.fresh (n : Nat) : Memory := { cells := [], draw := n, filled := .replicate 9 false }

/-- The four causes of an invalid access (R161). -/
inductive MemoryCause where
  | busWidth
  | outOfZone
  | reversedOrEmptyRange
  | crossZoneRange
  deriving DecidableEq, Repr

/-- The mnemonic tables a lookup can miss in (R164). -/
inductive MnemonicTable where
  | alu
  | multiply
  deriving DecidableEq, Repr

/-- The four errors of the CORE with the value each records (R160). They are results of the operation that raised them
(R165), not stops of the model: a failed command answers one, a failed cycle latches one. -/
inductive Error where
  /-- Raised by ASC: every command of R131 to R136, and the fetch of a cycle (R161). The address is a natural number,
  since the sums of R36 and R38 are not truncated (R30). -/
  | invalidMemoryAccess (cause : MemoryCause) (addr : Nat)
  /-- Raised by ASC: load_bios and load_rom with an oversized image (R162). -/
  | loadingError (target : Buffer) (len capacity : Nat)
  /-- Raised by DEC when `AMBIGUITY_FATAL` is true (R77, R163). -/
  | decodeAmbiguity (opcode : Word) (matchVec : BitVec 20)
  /-- Raised by REN for a type-7 word with `Op` = 3 (R113, R164). -/
  | unknownMnemonic (table : MnemonicTable) (index : Nat)
  deriving DecidableEq, Repr

/-- Why a step of the model stops. -/
inductive Fault where
  /-- Raised by `step` when a PIPE cycle is asked for while the fault latch holds `e`: PIPE has no step then (R20,
  R150). Safe: the spec gives the machine no further behaviour until the host resets it (log entry 12). -/
  | latched (e : Error)
  deriving DecidableEq, Repr

/-- Why a step of the model is refused. -/
inductive Refusal where
  /-- Raised by `exec` for an instruction that has no meaning yet; no arm of this model raises it. Safe. -/
  | notModelled (mnemonic : String)
  deriving DecidableEq, Repr

/-- A DecodedInstruction (R16): the word, where it was fetched from, and its type and fields once it is decoded. -/
structure DecodedInstruction where
  address : Word
  opcode : Word
  decoded : Option Classification
  deriving DecidableEq, Repr

/-- The mode-banked registers (R13): r8 to r14 for FIQ, r13 and r14 for each other mode. PRESUMED layout, log entry 14. -/
structure BankedRegisters where
  fiq : Vector Word 7
  svc : Vector Word 2
  abt : Vector Word 2
  irq : Vector Word 2
  und : Vector Word 2
  deriving DecidableEq, Repr

/-- The status registers (R14): CPSR and the five SPSRs. PRESUMED layout, log entry 14. -/
structure StatusRegisters where
  cpsr : Word
  spsrFiq : Word
  spsrSvc : Word
  spsrAbt : Word
  spsrIrq : Word
  spsrUnd : Word
  deriving DecidableEq, Repr

/-- The mnemonic part of a rendered line (R122). -/
inductive Mnemonic where
  | alu (n : AluName)
  | bx
  | blx
  | mul (n : MulName)
  | b (c : CondName)
  | bl (c : CondName)
  | placeholder (k : Kind)
  | unknownMarker
  deriving DecidableEq, Repr

/-- The operand part of a rendered line (R122). -/
inductive RenderedOperand where
  | none
  | unrendered
  | reg (n : BitVec 4)
  | label (target : Word)
  deriving DecidableEq, Repr

/-- The structured value of a rendered line (R122). -/
structure Rendered where
  address : Option Word
  opcode : Option Word
  mnemonic : Mnemonic
  operand : RenderedOperand
  deriving DecidableEq, Repr

/-- What a cycle answers on the port `decoded` (R150, R152): the instruction with its type and fields, and its line of
text, also in the structured form of R122. -/
structure DecodedOutput where
  instruction : DecodedInstruction
  rendered : Rendered
  text : String
  deriving DecidableEq, Repr

/-- The commands of the address-space controller (R130). The length of an image or a block is its own (log entry 17). -/
inductive Command where
  | read8 (addr : Word)
  | read16 (addr : Word)
  | read32 (addr : Word)
  | write8 (addr : Word) (val : Byte)
  | writeBlock (addr : Word) (data : List Byte)
  | fill (addrStart addrEnd pattern : Word)
  | dumpZone (z : Fin 16)
  | loadBios (image : List Byte)
  | loadRom (image : List Byte)
  deriving DecidableEq, Repr

/-- What ASC answers to a command (R130): a value, a byte sequence, success with no value, or one error. -/
inductive Reply where
  | byte (v : Byte)
  | half (v : Half)
  | word (v : Word)
  | done
  | bytes (l : List Byte)
  | failed (e : Error)
  deriving DecidableEq, Repr

/-- One operation the host asks for (R8, R180, R130, R150). -/
inductive Request where
  | reset
  | command (c : Command)
  | cycle (o : Config.FormatOptions)
  deriving DecidableEq, Repr

/-- The output ports of the last operation (R70, R130, R150). The port `fault` of R150 is the latch itself. Model's own
field, log entry 8. -/
structure Outputs where
  fetched : Option (Word × Word) := none
  dec : Option DecOutput := none
  decoded : Option DecodedOutput := none
  executed : Option DecodedInstruction := none
  reply : Option Reply := none
  deriving DecidableEq, Repr

/-- The state of the CORE (R10), with the parameters and inputs of R19 and the model's own fields. -/
structure State where
  /-- The general registers; `x[15]` is the pc (R11, R12). -/
  x : Vector Word 16
  /-- The mode-banked registers (R13). -/
  bank : BankedRegisters
  /-- The status registers (R14). -/
  psr : StatusRegisters
  /-- Slot F, fetch-latched (R15). -/
  slotF : Option DecodedInstruction
  /-- Slot D, decode-in-progress (R15). -/
  slotD : Option DecodedInstruction
  /-- Slot X, execute-ready (R15). -/
  slotX : Option DecodedInstruction
  /-- The backing buffers (R17). -/
  mem : Memory
  /-- The fault latch (R20). -/
  fault : Option Error
  /-- The model parameters, fixed for the life of the machine (R19 (b), R7). -/
  params : Config.Params
  /-- The format options in force (R19 (a), R150); log entry 7. -/
  options : Config.FormatOptions
  /-- The host's requests not yet served, the next one first (R8, R141); log entry 6. -/
  requests : List Request
  /-- The output ports of the last operation; log entry 8. -/
  out : Outputs
  /-- How many resets the host has made, which numbers the next free buffer content; log entry 3. -/
  draws : Nat
  deriving DecidableEq, Repr

/-- The mode-banked registers after reset: zero (R21). -/
def BankedRegisters.zero : BankedRegisters :=
  { fiq := .replicate 7 0, svc := .replicate 2 0, abt := .replicate 2 0, irq := .replicate 2 0, und := .replicate 2 0 }

/-- The status registers after reset: zero (R21). -/
def StatusRegisters.zero : StatusRegisters :=
  { cpsr := 0, spsrFiq := 0, spsrSvc := 0, spsrAbt := 0, spsrIrq := 0, spsrUnd := 0 }

/-- The machine right after reset (R21, R180). The buffers hold the free content number 0 (R181, log entry 1); the
parameters have the defaults of R7 and R124 (log entry 4); the options, the requests, the ports and the counter are the
model's (log entries 7, 6, 8, 3). -/
def State.reset : State :=
  { x := .replicate 16 0
    bank := .zero
    psr := .zero
    slotF := none
    slotD := none
    slotX := none
    mem := .fresh 0
    fault := none
    params := {}
    options := { showAddress := false, showOpcode := false }
    requests := []
    out := {}
    draws := 0 }

end Sys2Proof.Machine
end

