-- ==== Sys2Proof/Machine/Ops.lean ====
section
/-! DEFINITION. The shared operations: registers and the pc (R11, R12), the backing buffers, the zone mapper and the
bounds checker (20_memory.md of spec/), the commands of the address-space controller (45_asc_operations.md), taking an
error into the fault latch (R156, R157, R166), and reset by the host (R180), which alone clears it (R167). -/

namespace Sys2Proof.Machine

/-! ## Registers (R11, R12) -/

/-- `x[i]` (R9, R11). No register is hard-wired. -/
def State.readReg (s : State) (i : Fin 16) : Word := s.x[i]

/-- `x[i] <- v` (R9, R11). -/
def State.writeReg (s : State) (i : Fin 16) (v : Word) : State := { s with x := s.x.set i v }

/-- The program counter, an alias for general register 15 (R12). -/
def State.pc (s : State) : Word := s.readReg 15

/-- `pc <- v` (R12). -/
def State.setPc (s : State) (v : Word) : State := s.writeReg 15 v

/-! ## The backing buffers (R17) -/

/-- The size of a buffer in bytes (R17). -/
def Buffer.size : Buffer → Nat
  | .bios => 0x4000
  | .ewram => 0x40000
  | .iwram => 0x8000
  | .io => 0x3FF
  | .pal => 0x400
  | .vram => 0x18000
  | .oam => 0x400
  | .rom => 0x2000000
  | .sram => 0x10000

/-- The cell of a buffer's byte 0: the lowest address that locates it (R32; log entry 15). -/
def Buffer.firstCell : Buffer → Nat
  | .bios => 0x00000000
  | .ewram => 0x02000000
  | .iwram => 0x03000000
  | .io => 0x04000000
  | .pal => 0x05000000
  | .vram => 0x06000000
  | .oam => 0x07000000
  | .rom => 0x08000000
  | .sram => 0x0E000000

/-- The nine buffers (R17). -/
def Buffer.all : List Buffer := [.bios, .ewram, .iwram, .io, .pal, .vram, .oam, .rom, .sram]

/-- The cell belongs to this buffer. -/
def Buffer.holds (b : Buffer) (cell : Nat) : Bool := decide (b.firstCell ≤ cell ∧ cell < b.firstCell + b.size)

/-- The cell belongs to some buffer: it is a byte of storage. -/
def isStorage (cell : Nat) : Bool := Buffer.all.any (·.holds cell)

/-- The place of a buffer in `Memory.filled`. -/
def Buffer.index : Buffer → Fin 9
  | .bios => 0
  | .ewram => 1
  | .iwram => 2
  | .io => 3
  | .pal => 4
  | .vram => 5
  | .oam => 6
  | .rom => 7
  | .sram => 8

/-- The entry for a cell, if there is one. -/
def lookup (cells : List Host.Cell) (cell : Nat) : Option Byte :=
  match cells with
  | [] => none
  | (c, v) :: rest => if c = cell then some v else lookup rest cell

/-- Give a cell the entry `o`, or none, in a list with cells rising. -/
def putCell (cells : List Host.Cell) (cell : Nat) (o : Option Byte) : List Host.Cell :=
  let entry := o.toList.map fun v => (cell, v)
  match cells with
  | [] => entry
  | (c, u) :: rest =>
    if cell < c then entry ++ (c, u) :: rest
    else if cell = c then entry ++ rest
    else (c, u) :: putCell rest cell o

/-- The cell lies in a buffer that a load has filled with 0xFF since the last reset (R138, R139). -/
def Memory.isFilled (m : Memory) (cell : Nat) : Bool := Buffer.all.any fun b => b.holds cell && m.filled[b.index]

/-- The byte that a load or a write made after the last reset has given a cell, if one has: R181 lets a proof take a
byte's value from nowhere else. -/
def Memory.known (m : Memory) (cell : Nat) : Option Byte :=
  match lookup m.cells cell with
  | some v => some v
  | none => if m.isFilled cell then some 0xFF else none

/-- What a cell holds: the byte given since the last reset, else the free byte that reset left there (R181). -/
def Memory.get (m : Memory) (cell : Nat) : Byte :=
  match m.known cell with
  | some v => v
  | none => Config.initBuffers m.draw cell

/-- Write one cell, keeping the canonical form: a byte that the filled buffer gives anyway gets no entry. -/
def Memory.set (m : Memory) (cell : Nat) (v : Byte) : Memory :=
  { m with cells := putCell m.cells cell (if m.isFilled cell ∧ v = 0xFF then none else some v) }

/-- The canonical form: cells strictly rising, each a byte of storage, none listed with the byte that its filled buffer
gives it unlisted. -/
abbrev Memory.wf (m : Memory) : Prop :=
  m.cells.Pairwise (fun c d => c.1 < d.1)
    ∧ ∀ c ∈ m.cells, isStorage c.1 = true ∧ (m.isFilled c.1 = true → c.2 ≠ 0xFF)

/-! ## The zone mapper (R30 to R34) -/

/-- The bus-width check (R30). -/
def busOk (a : Nat) : Bool := decide (a < 0x10000000)

/-- The zone index, address bits 27 to 24 (R31). -/
def zone (a : Nat) : Nat := a / 0x1000000 % 16

/-- The base address of a zone (R31). -/
def zoneBase (z : Nat) : Nat := z * 0x1000000

/-- The offset of an address in its zone (R31). -/
def offset (a : Nat) : Nat := a - zoneBase (zone a)

/-- A row of the zone table: size, and the backing buffer with its start index (R32). -/
structure ZoneRow where
  size : Nat
  backing : Option (Buffer × Nat)
  deriving DecidableEq, Repr

/-- The zone table (R32, R51); zones 1 and 15 are unmapped and have size 0. -/
def zoneRow (z : Nat) : ZoneRow :=
  match z with
  | 0 => ⟨0x4000, some (.bios, 0)⟩
  | 2 => ⟨0x40000, some (.ewram, 0)⟩
  | 3 => ⟨0x8000, some (.iwram, 0)⟩
  | 4 => ⟨0x3FF, some (.io, 0)⟩
  | 5 => ⟨0x400, some (.pal, 0)⟩
  | 6 => ⟨0x18000, some (.vram, 0)⟩
  | 7 => ⟨0x400, some (.oam, 0)⟩
  | 8 => ⟨0x1000000, some (.rom, 0)⟩
  | 9 => ⟨0x1000000, some (.rom, 0x1000000)⟩
  | 10 => ⟨0x1000000, some (.rom, 0)⟩
  | 11 => ⟨0x1000000, some (.rom, 0x1000000)⟩
  | 12 => ⟨0x1000000, some (.rom, 0)⟩
  | 13 => ⟨0x1000000, some (.rom, 0x1000000)⟩
  | 14 => ⟨0x10000, some (.sram, 0)⟩
  | _ => ⟨0, none⟩

/-- The size of a zone (R32). -/
def zoneSize (z : Nat) : Nat := (zoneRow z).size

/-- The storage location of a valid address: buffer and index (R33); an invalid address has none. -/
def locate (a : Nat) : Option (Buffer × Nat) :=
  if busOk a ∧ offset a < zoneSize (zone a) then
    (zoneRow (zone a)).backing.map fun (b, start) => (b, start + offset a)
  else none

/-- The memory cell of a valid address (R33). -/
def cellOf (a : Nat) : Option Nat := (locate a).map fun (b, i) => b.firstCell + i

/-- `Byte(a)` := `Buf[locate(a)]` (R132). Asked for valid addresses only: the commands check first, so the byte answered
for any other address reaches nothing. -/
def byteAt (m : Memory) (a : Nat) : Byte :=
  match cellOf a with
  | some c => m.get c
  | none => 0

/-- `Buf[locate(a)] <- v` (R134). Asked for valid addresses only: the commands check first. -/
def setByteAt (m : Memory) (a : Nat) (v : Byte) : Memory :=
  match cellOf a with
  | some c => m.set c v
  | none => m

/-! ## The bounds checker (R35, R36, R38): each check answers the first error it meets, or none -/

/-- Single-address validation (R35). -/
def singleCheck (a : Nat) : Option Error :=
  if ¬ busOk a then some (.invalidMemoryAccess .busWidth a)
  else if offset a ≥ zoneSize (zone a) then some (.invalidMemoryAccess .outOfZone a)
  else none

/-- The wait-state pairs (8,9), (10,11), (12,13) (R36). -/
def paired (z1 z2 : Nat) : Bool := decide (z1 % 2 = 0 ∧ z1 ≥ 8 ∧ z2 = z1 + 1 ∧ z2 < 14)

/-- Range validation of `[a1, a2)` (R36); the end is exclusive and is itself checked. -/
def rangeCheck (a1 a2 : Nat) : Option Error :=
  if a1 ≥ a2 then some (.invalidMemoryAccess .reversedOrEmptyRange a1)
  else if ¬ busOk a1 then some (.invalidMemoryAccess .busWidth a1)
  else if ¬ busOk a2 then some (.invalidMemoryAccess .busWidth a2)
  else if zone a1 ≠ zone a2 ∧ ¬ paired (zone a1) (zone a2) then some (.invalidMemoryAccess .crossZoneRange a2)
  else if offset a1 > zoneSize (zone a1) then some (.invalidMemoryAccess .outOfZone a1)
  else if offset a2 > zoneSize (zone a2) then some (.invalidMemoryAccess .outOfZone a2)
  else none

/-- Validation of an access to `n` bytes at one address (R38). -/
def accessCheck (a n : Nat) : Option Error :=
  match singleCheck a with
  | some e => some e
  | none =>
    match singleCheck (a + n - 1) with
    | some e => some e
    | none =>
      if zone a ≠ zone (a + n - 1) ∧ ¬ paired (zone a) (zone (a + n - 1)) then
        some (.invalidMemoryAccess .crossZoneRange (a + n - 1))
      else none

/-! ## The commands of ASC (R130 to R139) -/

/-- `read8` (R131). -/
def read8 (m : Memory) (addr : Word) : Except Error Byte :=
  match singleCheck addr.toNat with
  | some e => .error e
  | none => .ok (byteAt m addr.toNat)

/-- `read16`, little-endian, no alignment (R132, R39, R40). -/
def read16 (m : Memory) (addr : Word) : Except Error Half :=
  match accessCheck addr.toNat 2 with
  | some e => .error e
  | none => .ok (byteAt m (addr.toNat + 1) ++ byteAt m addr.toNat)

/-- The little-endian word at an address (R39). -/
def wordAt (m : Memory) (a : Nat) : Word :=
  wordOfBytes (byteAt m a) (byteAt m (a + 1)) (byteAt m (a + 2)) (byteAt m (a + 3))

/-- `read32`, little-endian, no alignment (R133, R39, R40). -/
def read32 (m : Memory) (addr : Word) : Except Error Word :=
  match accessCheck addr.toNat 4 with
  | some e => .error e
  | none => .ok (wordAt m addr.toNat)

/-- `write8` (R134). -/
def write8 (m : Memory) (addr : Word) (val : Byte) : Except Error Memory :=
  match singleCheck addr.toNat with
  | some e => .error e
  | none => .ok (setByteAt m addr.toNat val)

/-- The bytes in order at consecutive addresses, the first at `a` (R135). -/
def writeBytes (m : Memory) (a : Nat) (data : List Byte) : Memory :=
  match data with
  | [] => m
  | v :: rest => writeBytes (setByteAt m a v) (a + 1) rest

/-- `write_block` (R135): the range is checked whole before the first byte is written (R140). -/
def writeBlock (m : Memory) (addr : Word) (data : List Byte) : Except Error Memory :=
  match rangeCheck addr.toNat (addr.toNat + data.length) with
  | some e => .error e
  | none => .ok (writeBytes m addr.toNat data)

/-- Byte `i` of the repeated pattern: `(pattern >> (8 * (i mod 4)))[7:0]` (R136). -/
def patternByte (pattern : Word) (i : Nat) : Byte := (pattern >>> (8 * (i % 4))).setWidth 8

/-- The first `n` bytes of the repeated pattern at consecutive addresses from `a` (R136). -/
def fillBytes (m : Memory) (a : Nat) (pattern : Word) : Nat → Memory
  | 0 => m
  | n + 1 => setByteAt (fillBytes m a pattern n) (a + n) (patternByte pattern n)

/-- `fill` (R136): the phase of the pattern is taken from the start of the range. -/
def fill (m : Memory) (addrStart addrEnd pattern : Word) : Except Error Memory :=
  match rangeCheck addrStart.toNat addrEnd.toNat with
  | some e => .error e
  | none => .ok (fillBytes m addrStart.toNat pattern (addrEnd.toNat - addrStart.toNat))

/-- `dump_zone` (R137): the zone's backing bytes, lowest address first; none for an unmapped zone. -/
def dumpZone (m : Memory) (z : Fin 16) : List Byte :=
  match (zoneRow z.val).backing with
  | none => []
  | some (b, start) => (List.range (zoneSize z.val)).map fun i => m.get (b.firstCell + start + i)

/-- Every byte of a buffer set to 0xFF, the fill before a load (R138, R139): the buffer counts as filled and its entries
are removed (log entry 16). -/
def clearBuffer (m : Memory) (b : Buffer) : Memory :=
  { m with cells := m.cells.filter (fun c => !b.holds c.1), filled := m.filled.set b.index true }

/-- `Buf[b][i] <- image[0]`, and so on upwards (R138, R139). -/
def storeImage (m : Memory) (b : Buffer) (i : Nat) (image : List Byte) : Memory :=
  match image with
  | [] => m
  | v :: rest => storeImage (m.set (b.firstCell + i) v) b (i + 1) rest

/-- A load: the size test first, then the fill, then the image from index 0 (R138, R139). -/
def loadBuffer (m : Memory) (b : Buffer) (image : List Byte) : Except Error Memory :=
  if image.length > b.size then .error (.loadingError b image.length b.size)
  else .ok (storeImage (clearBuffer m b) b 0 image)

/-- `load_bios` (R138). -/
def loadBios (m : Memory) (image : List Byte) : Except Error Memory := loadBuffer m .bios image

/-- `load_rom` (R139). -/
def loadRom (m : Memory) (image : List Byte) : Except Error Memory := loadBuffer m .rom image

/-- The reply of a read command: the value or the error (R130). -/
def readReply {α : Type} (value : α → Reply) : Except Error α → Reply
  | .ok v => value v
  | .error e => .failed e

/-- The memory and the reply after a write command: nothing changes on an error (R130, R140). -/
def writeReply (m : Memory) : Except Error Memory → Memory × Reply
  | .ok m' => (m', .done)
  | .error e => (m, .failed e)

/-- ASC serves one command (R130): the memory after it and the reply. -/
def serveCommand (m : Memory) : Command → Memory × Reply
  | .read8 a => (m, readReply .byte (read8 m a))
  | .read16 a => (m, readReply .half (read16 m a))
  | .read32 a => (m, readReply .word (read32 m a))
  | .write8 a v => writeReply m (write8 m a v)
  | .writeBlock a data => writeReply m (writeBlock m a data)
  | .fill a1 a2 p => writeReply m (fill m a1 a2 p)
  | .dumpZone z => (m, .bytes (dumpZone m z))
  | .loadBios image => writeReply m (loadBios m image)
  | .loadRom image => writeReply m (loadRom m image)

/-! ## Errors of a cycle, and reset -/

/-- Taking an error in a cycle: the fault latch is set and nothing else changes; nothing is saved, vectored or masked
(R156, R157, R166). Nothing returns from it but a reset (R167). -/
def State.latch (s : State) (e : Error) : State := { s with fault := some e }

/-- Reset by the host (R180): registers, banks and status registers zero, slots empty, the latch clear. The contents of
the buffers are a new free value, number `draws + 1` (R181; log entries 2 and 3); parameters, options and requests stay
(log entry 22). -/
def State.hostReset (s : State) : State :=
  { s with
    x := .replicate 16 0
    bank := .zero
    psr := .zero
    slotF := none
    slotD := none
    slotX := none
    mem := Memory.fresh (s.draws + 1)
    fault := none
    out := {}
    draws := s.draws + 1 }

end Sys2Proof.Machine
end

