-- ==== Sys2Proof/Machine/Flags.lean ====
section
/-! DEFINITION. The flag computations the spec gives: there are none. The CORE computes no flag and evaluates no condition
(R14, R114, R190); the status registers are inert. Here stand the condition names the `Cond` field selects, which REN
prints for branches (R114), and the fields of a status word that R14 describes from outside the source. -/

namespace Sys2Proof.Machine

/-- The condition-code table, keyed by the 4-bit `Cond` (R114). Names only: no condition is evaluated. -/
def condName (cond : BitVec 4) : CondName :=
  match cond.toNat with
  | 0 => .eq
  | 1 => .ne
  | 2 => .hs
  | 3 => .lo
  | 4 => .mi
  | 5 => .pl
  | 6 => .vs
  | 7 => .vc
  | 8 => .hi
  | 9 => .ls
  | 10 => .ge
  | 11 => .lt
  | 12 => .gt
  | 13 => .le
  | 14 => .al
  | _ => .nv

/-- The condition flags N, Z, C, V of a status word, bits 31 to 28 (R14; PRESUMED, log entry 14). No rule reads them. -/
def conditionFlags (status : Word) : BitVec 4 := status.extractLsb' 28 4

/-- The interrupt masks I and F of a status word, bits 7 and 6 (R14; PRESUMED, log entry 14). No rule reads them. -/
def interruptMasks (status : Word) : BitVec 2 := status.extractLsb' 6 2

/-- The state bit T of a status word, bit 5 (R14; PRESUMED, log entry 14). No rule reads it. -/
def stateBit (status : Word) : BitVec 1 := status.extractLsb' 5 1

/-- The mode field of a status word, bits 4 to 0 (R14; PRESUMED, log entry 14). No rule reads it. -/
def modeField (status : Word) : BitVec 5 := status.extractLsb' 0 5

end Sys2Proof.Machine
end

