-- ==== Sys2Proof/Machine/Operands.lean ====
section
/-! DEFINITION. The operand forms (R65). Every field is extracted unsigned (Decode.lean); the CORE assembles no operand
further but the branch target of type 16 (R65 (b), R118), and names a register by the number in a field (R116). -/

namespace Sys2Proof.Machine

/-- The branch offset sign-extended to 32 bits, by OR-ing the top 8 bits with 0xFF if bit 23 is set (R118). -/
def signedOffset (offset : BitVec 24) : Word :=
  if offset.getLsbD 23 then offset.setWidth 32 ||| 0xFF000000 else offset.setWidth 32

/-- The branch target law: `(address + 8 + 4 * soff) mod 2^32`, from the instruction's own address (R118). -/
def branchTarget (address : Word) (offset : BitVec 24) : Word := address + 8 + 4 * signedOffset offset

/-- The operand of a branch (R119). -/
def branchOperand (address : Word) (f : BranchFields) : RenderedOperand := .label (branchTarget address f.offset)

/-- The operand of a branch-exchange: the register its `Rn` field names (R116). -/
def registerOperand (f : BranchExchangeFields) : RenderedOperand := .reg f.rn

end Sys2Proof.Machine
end

