-- ==== Sys2Proof/Machine/Render.lean ====
section
/-! DEFINITION. REN, the rendering layer (44_render.md of spec/): the bodies of the types (R115 to R121), the structured
value (R122) and the line of text (R111). A pure function of the instruction, its classification, the format options and
the text parameters (R123). -/

namespace Sys2Proof.Machine

/-! ## The printed names -/

/-- The type names (R64). -/
def kindText : Kind → String
  | .unknown => "UNKNOWN"
  | .aluRegShiftImm => "ALU_REG_SHIFT_IMM"
  | .aluRegShiftReg => "ALU_REG_SHIFT_REG"
  | .aluImm => "ALU_IMM"
  | .psrImm => "PSR_IMM"
  | .psrReg => "PSR_REG"
  | .branchExchange => "BRANCH_EXCHANGE"
  | .multiply => "MULTIPLY"
  | .multiplyLong => "MULTIPLY_LONG"
  | .swap => "SWAP"
  | .halfwordReg => "HALFWORD_REG"
  | .halfwordImm => "HALFWORD_IMM"
  | .transferReg => "TRANSFER_REG"
  | .transferImm => "TRANSFER_IMM"
  | .undefined => "UNDEFINED"
  | .blockTransfer => "BLOCK_TRANSFER"
  | .branch => "BRANCH"
  | .coprocDataTransfer => "COPROC_DATA_TRANSFER"
  | .coprocDataOp => "COPROC_DATA_OP"
  | .coprocRegTransfer => "COPROC_REG_TRANSFER"
  | .softwareInterrupt => "SOFTWARE_INTERRUPT"

/-- The ALU mnemonics (R112). -/
def aluText : AluName → String
  | .and => "AND"
  | .eor => "EOR"
  | .sub => "SUB"
  | .rsb => "RSB"
  | .add => "ADD"
  | .adc => "ADC"
  | .sbc => "SBC"
  | .rsc => "RSC"
  | .tst => "TST"
  | .teq => "TEQ"
  | .cmp => "CMP"
  | .cmn => "CMN"
  | .orr => "ORR"
  | .mov => "MOV"
  | .bic => "BIC"
  | .mvn => "MVN"

/-- The multiply mnemonics (R113). -/
def mulText : MulName → String
  | .mul => "MUL"
  | .mla => "MLA"
  | .umaal => "UMAAL"
  | .umull => "UMULL"
  | .umlal => "UMLAL"
  | .smull => "SMULL"
  | .smlal => "SMLAL"

/-- The condition suffixes; "always" is the empty string (R114). -/
def condText : CondName → String
  | .eq => "EQ"
  | .ne => "NE"
  | .hs => "HS"
  | .lo => "LO"
  | .mi => "MI"
  | .pl => "PL"
  | .vs => "VS"
  | .vc => "VC"
  | .hi => "HI"
  | .ls => "LS"
  | .ge => "GE"
  | .lt => "LT"
  | .gt => "GT"
  | .le => "LE"
  | .al => ""
  | .nv => "NV"

/-- One hexadecimal digit, upper case (R111). -/
def hexDigit (n : Nat) : Char := if n < 10 then Char.ofNat (48 + n) else Char.ofNat (55 + n)

/-- `hex8`: the eight upper-case hexadecimal digits, most significant first, zero-padded (R111). -/
def hex8 (v : Word) : String :=
  String.ofList ([28, 24, 20, 16, 12, 8, 4, 0].map fun k => hexDigit (v.extractLsb' k 4).toNat)

/-- `TXT_PLACEHOLDER(t)`, by default the type name in brackets (R120, R124; log entry 5). -/
def placeholderText (p : Config.Params) (k : Kind) : String :=
  match p.txtPlaceholder.find? (fun e => e.1 == k) with
  | some (_, t) => t
  | none => "[" ++ kindText k ++ "]"

/-- The mnemonic part of a body (R115 to R121). -/
def mnemonicText (p : Config.Params) : Mnemonic → String
  | .alu n => aluText n
  | .bx => "BX"
  | .blx => "BLX"
  | .mul n => mulText n
  | .b c => "B" ++ condText c
  | .bl c => "BL" ++ condText c
  | .placeholder k => placeholderText p k
  | .unknownMarker => p.txtUnknown

/-- The operand part of a body with what separates it from the mnemonic (R115, R116, R119). -/
def operandText (p : Config.Params) : RenderedOperand → String
  | .none => ""
  | .unrendered => p.txtAluOperands
  | .reg n => " " ++ (p.regPrefix ++ toString n.toNat)
  | .label target => " " ++ (p.labelPrefix ++ hex8 target)

/-- A hexadecimal field and its separator, if the field is present (R111). -/
def prefixText (v : Option Word) (separator : String) : String :=
  match v with
  | some w => hex8 w ++ separator
  | none => ""

/-- The line of text of a rendered value: `[ADDR : ][OPCODE | ]MNEMONIC[ OPERAND]` (R111, R122). -/
def Rendered.text (p : Config.Params) (r : Rendered) : String :=
  prefixText r.address " : " ++ prefixText r.opcode " | " ++ mnemonicText p r.mnemonic ++ operandText p r.operand

/-! ## The bodies -/

/-- `MUL_MNEMONIC[Op]`, a miss of which is the error `UnknownMnemonic` (R113, R117, R164). -/
def mulBody (op : BitVec 3) : Except Error (Mnemonic × RenderedOperand) :=
  match mulName op with
  | some n => .ok (.mul n, .none)
  | none => .error (.unknownMnemonic .multiply op.toNat)

/-- `body(I)` of an instruction at an address with this classification (R115 to R121). -/
def body (address : Word) : Classification → Except Error (Mnemonic × RenderedOperand)
  | .unknown => .ok (.unknownMarker, .none)
  | .aluRegShiftImm f => .ok (.alu (aluName f.op), .unrendered)
  | .aluRegShiftReg f => .ok (.alu (aluName f.op), .unrendered)
  | .aluImm f => .ok (.alu (aluName f.op), .unrendered)
  | .branchExchange f => .ok (if f.l = 1 then .blx else .bx, registerOperand f)
  | .multiply f => mulBody f.op
  | .multiplyLong f => mulBody f.op
  | .branch f =>
    .ok (if f.l = 1 then .bl (condName f.cond) else .b (condName f.cond), branchOperand address f)
  | .psrImm _ => .ok (.placeholder .psrImm, .none)
  | .psrReg _ => .ok (.placeholder .psrReg, .none)
  | .swap _ => .ok (.placeholder .swap, .none)
  | .halfwordReg _ => .ok (.placeholder .halfwordReg, .none)
  | .halfwordImm _ => .ok (.placeholder .halfwordImm, .none)
  | .transferReg _ => .ok (.placeholder .transferReg, .none)
  | .transferImm _ => .ok (.placeholder .transferImm, .none)
  | .undefined _ => .ok (.placeholder .undefined, .none)
  | .blockTransfer _ => .ok (.placeholder .blockTransfer, .none)
  | .coprocDataTransfer _ => .ok (.placeholder .coprocDataTransfer, .none)
  | .coprocDataOp _ => .ok (.placeholder .coprocDataOp, .none)
  | .coprocRegTransfer _ => .ok (.placeholder .coprocRegTransfer, .none)
  | .softwareInterrupt _ => .ok (.placeholder .softwareInterrupt, .none)

/-- A value that is present only when its option is set (R111, R122). -/
def shown (b : Bool) (w : Word) : Option Word := if b then some w else none

/-- `render`: the structured line of an instruction, or the error of a mnemonic lookup (R110, R111, R122). -/
def render (o : Config.FormatOptions) (address opcode : Word) (c : Classification) : Except Error Rendered :=
  match body address c with
  | .ok (m, r) =>
    .ok { address := shown o.showAddress address, opcode := shown o.showOpcode opcode, mnemonic := m, operand := r }
  | .error e => .error e

end Sys2Proof.Machine
end

