-- ==== Sys2Proof/Machine/DecodeStage.lean ====
section
/-! DEFINITION. The decode-and-render sub-step (R152, R157) on the instruction in slot D, given its classification: the
one operation behind the meaning of every instruction. What an instruction does in the CORE is this: it is classified,
its fields are extracted and it is rendered; when executed it has no effect (R79, R153, R190 to R193; log entry 9). -/

namespace Sys2Proof.Machine

/-- DEC's ports for a word whose classification stands (R70, R77). -/
def standingDecOutput (opcode : Word) (c : Classification) : DecOutput :=
  { result := decResultOf c, matchVec := matchVec opcode, multiMatch := multiMatch opcode }

/-- DEC's ports for an ambiguous word under `AMBIGUITY_FATAL`: no type and no fields (R77). -/
def ambiguousDecOutput (opcode : Word) : DecOutput :=
  { result := .ambiguous (matchVec opcode), matchVec := matchVec opcode, multiMatch := multiMatch opcode }

/-- DEC's ports are driven with this output (R70). -/
def State.putDec (s : State) (d : DecOutput) : State := { s with out := { s.out with dec := some d } }

/-- What the port `decoded` carries for the instruction `I` with classification `c` rendered as `r` (R150, R152). -/
def State.decodedOutput (s : State) (I : DecodedInstruction) (c : Classification) (r : Rendered) : DecodedOutput :=
  { instruction := { I with decoded := some c }, rendered := r, text := r.text s.params }

/-- The instruction `I` in slot D now has the classification `c`, and the port `decoded` carries it with its line of text
(R152). -/
def State.putDecoded (s : State) (I : DecodedInstruction) (c : Classification) (r : Rendered) : State :=
  { s with
    slotD := some { I with decoded := some c }
    out := { s.out with decoded := some (s.decodedOutput I c r) } }

/-- A multi-match word is an error under `AMBIGUITY_FATAL` (R77). -/
def State.ambiguous (s : State) (opcode : Word) : Bool := s.params.ambiguityFatal && multiMatch opcode

/-- Decode and render the instruction in slot D as `c` (R152). Nothing happens if D is empty (log entry 24). An error
latches the fault and leaves D as it is (R157; log entry 11); `DecodeAmbiguity` comes before `UnknownMnemonic` (R172). -/
def decodeAs (c : Classification) (s : State) : Host.Outcome State Fault Refusal :=
  match s.slotD with
  | none => .next s
  | some I =>
    if s.ambiguous I.opcode then
      .next ((s.putDec (ambiguousDecOutput I.opcode)).latch (.decodeAmbiguity I.opcode (matchVec I.opcode)))
    else
      match render s.options I.address I.opcode c with
      | .ok r => .next ((s.putDec (standingDecOutput I.opcode c)).putDecoded I c r)
      | .error e => .next ((s.putDec (standingDecOutput I.opcode c)).latch e)

/-- An UNKNOWN word goes through the decode stage like any other, with the empty field map and the marker (R76, R105,
R121, R152). -/
def decodeUnknown (s : State) : Host.Outcome State Fault Refusal := decodeAs .unknown s

end Sys2Proof.Machine
end

