-- ==== Sys2Proof/Machine/AluImm.lean ====
section
/-! DEFINITION. The meanings of the ALU instructions with an immediate operand (R82); `Rotate` and `Imm` stay two fields (R65). They compute nothing and write no register and no flag (R190). -/

namespace Sys2Proof.Machine

/-- AND, `Op` = 0x0: type 3, rendered "AND" with the placeholder for operands (R82, R112, R115). -/
def execAndImm (o : AluImmOperands) (s : State) : Host.Outcome State Fault Refusal :=
  decodeAs (.aluImm (o.toFields 0)) s

/-- EOR, `Op` = 0x1: type 3, rendered "EOR" with the placeholder for operands (R82, R112, R115). -/
def execEorImm (o : AluImmOperands) (s : State) : Host.Outcome State Fault Refusal :=
  decodeAs (.aluImm (o.toFields 1)) s

/-- SUB, `Op` = 0x2: type 3, rendered "SUB" with the placeholder for operands (R82, R112, R115). -/
def execSubImm (o : AluImmOperands) (s : State) : Host.Outcome State Fault Refusal :=
  decodeAs (.aluImm (o.toFields 2)) s

/-- RSB, `Op` = 0x3: type 3, rendered "RSB" with the placeholder for operands (R82, R112, R115). -/
def execRsbImm (o : AluImmOperands) (s : State) : Host.Outcome State Fault Refusal :=
  decodeAs (.aluImm (o.toFields 3)) s

/-- ADD, `Op` = 0x4: type 3, rendered "ADD" with the placeholder for operands (R82, R112, R115). -/
def execAddImm (o : AluImmOperands) (s : State) : Host.Outcome State Fault Refusal :=
  decodeAs (.aluImm (o.toFields 4)) s

/-- ADC, `Op` = 0x5: type 3, rendered "ADC" with the placeholder for operands (R82, R112, R115). -/
def execAdcImm (o : AluImmOperands) (s : State) : Host.Outcome State Fault Refusal :=
  decodeAs (.aluImm (o.toFields 5)) s

/-- SBC, `Op` = 0x6: type 3, rendered "SBC" with the placeholder for operands (R82, R112, R115). -/
def execSbcImm (o : AluImmOperands) (s : State) : Host.Outcome State Fault Refusal :=
  decodeAs (.aluImm (o.toFields 6)) s

/-- RSC, `Op` = 0x7: type 3, rendered "RSC" with the placeholder for operands (R82, R112, R115). -/
def execRscImm (o : AluImmOperands) (s : State) : Host.Outcome State Fault Refusal :=
  decodeAs (.aluImm (o.toFields 7)) s

/-- TST, `Op` = 0x8, `S` = 1, `Rd` = 0 (R73): type 3, rendered "TST" with the placeholder for operands (R82, R112, R115). -/
def execTstImmRd0 (o : CmpImmOperands) (s : State) : Host.Outcome State Fault Refusal :=
  decodeAs (.aluImm (o.toFields 8 0)) s

/-- TST, `Op` = 0x8, `S` = 1, `Rd` = 15 (R73): type 3, rendered "TST" with the placeholder for operands (R82, R112, R115). -/
def execTstImmRd15 (o : CmpImmOperands) (s : State) : Host.Outcome State Fault Refusal :=
  decodeAs (.aluImm (o.toFields 8 15)) s

/-- TEQ, `Op` = 0x9, `S` = 1, `Rd` = 0 (R73): type 3, rendered "TEQ" with the placeholder for operands (R82, R112, R115). -/
def execTeqImmRd0 (o : CmpImmOperands) (s : State) : Host.Outcome State Fault Refusal :=
  decodeAs (.aluImm (o.toFields 9 0)) s

/-- TEQ, `Op` = 0x9, `S` = 1, `Rd` = 15 (R73): type 3, rendered "TEQ" with the placeholder for operands (R82, R112, R115). -/
def execTeqImmRd15 (o : CmpImmOperands) (s : State) : Host.Outcome State Fault Refusal :=
  decodeAs (.aluImm (o.toFields 9 15)) s

/-- CMP, `Op` = 0xA, `S` = 1, `Rd` = 0 (R73): type 3, rendered "CMP" with the placeholder for operands (R82, R112, R115). -/
def execCmpImmRd0 (o : CmpImmOperands) (s : State) : Host.Outcome State Fault Refusal :=
  decodeAs (.aluImm (o.toFields 10 0)) s

/-- CMP, `Op` = 0xA, `S` = 1, `Rd` = 15 (R73): type 3, rendered "CMP" with the placeholder for operands (R82, R112, R115). -/
def execCmpImmRd15 (o : CmpImmOperands) (s : State) : Host.Outcome State Fault Refusal :=
  decodeAs (.aluImm (o.toFields 10 15)) s

/-- CMN, `Op` = 0xB, `S` = 1, `Rd` = 0 (R73): type 3, rendered "CMN" with the placeholder for operands (R82, R112, R115). -/
def execCmnImmRd0 (o : CmpImmOperands) (s : State) : Host.Outcome State Fault Refusal :=
  decodeAs (.aluImm (o.toFields 11 0)) s

/-- CMN, `Op` = 0xB, `S` = 1, `Rd` = 15 (R73): type 3, rendered "CMN" with the placeholder for operands (R82, R112, R115). -/
def execCmnImmRd15 (o : CmpImmOperands) (s : State) : Host.Outcome State Fault Refusal :=
  decodeAs (.aluImm (o.toFields 11 15)) s

/-- ORR, `Op` = 0xC: type 3, rendered "ORR" with the placeholder for operands (R82, R112, R115). -/
def execOrrImm (o : AluImmOperands) (s : State) : Host.Outcome State Fault Refusal :=
  decodeAs (.aluImm (o.toFields 12)) s

/-- MOV, `Op` = 0xD: type 3, rendered "MOV" with the placeholder for operands (R82, R112, R115). -/
def execMovImm (o : AluImmOperands) (s : State) : Host.Outcome State Fault Refusal :=
  decodeAs (.aluImm (o.toFields 13)) s

/-- BIC, `Op` = 0xE: type 3, rendered "BIC" with the placeholder for operands (R82, R112, R115). -/
def execBicImm (o : AluImmOperands) (s : State) : Host.Outcome State Fault Refusal :=
  decodeAs (.aluImm (o.toFields 14)) s

/-- MVN, `Op` = 0xF: type 3, rendered "MVN" with the placeholder for operands (R82, R112, R115). -/
def execMvnImm (o : AluImmOperands) (s : State) : Host.Outcome State Fault Refusal :=
  decodeAs (.aluImm (o.toFields 15)) s

end Sys2Proof.Machine
end

