-- ==== Sys2Proof/Machine/AluRegShiftImm.lean ====
section
/-! DEFINITION. The meanings of the ALU instructions with a register operand shifted by an immediate (R80): the type, the fields with the row's `Op`, and the row's mnemonic (R112, R115). They compute nothing and write no register and no flag (R190). -/

namespace Sys2Proof.Machine

/-- AND, `Op` = 0x0: type 1, rendered "AND" with the placeholder for operands (R80, R112, R115). -/
def execAndRegShiftImm (o : AluRegShiftImmOperands) (s : State) : Host.Outcome State Fault Refusal :=
  decodeAs (.aluRegShiftImm (o.toFields 0)) s

/-- EOR, `Op` = 0x1: type 1, rendered "EOR" with the placeholder for operands (R80, R112, R115). -/
def execEorRegShiftImm (o : AluRegShiftImmOperands) (s : State) : Host.Outcome State Fault Refusal :=
  decodeAs (.aluRegShiftImm (o.toFields 1)) s

/-- SUB, `Op` = 0x2: type 1, rendered "SUB" with the placeholder for operands (R80, R112, R115). -/
def execSubRegShiftImm (o : AluRegShiftImmOperands) (s : State) : Host.Outcome State Fault Refusal :=
  decodeAs (.aluRegShiftImm (o.toFields 2)) s

/-- RSB, `Op` = 0x3: type 1, rendered "RSB" with the placeholder for operands (R80, R112, R115). -/
def execRsbRegShiftImm (o : AluRegShiftImmOperands) (s : State) : Host.Outcome State Fault Refusal :=
  decodeAs (.aluRegShiftImm (o.toFields 3)) s

/-- ADD, `Op` = 0x4: type 1, rendered "ADD" with the placeholder for operands (R80, R112, R115). -/
def execAddRegShiftImm (o : AluRegShiftImmOperands) (s : State) : Host.Outcome State Fault Refusal :=
  decodeAs (.aluRegShiftImm (o.toFields 4)) s

/-- ADC, `Op` = 0x5: type 1, rendered "ADC" with the placeholder for operands (R80, R112, R115). -/
def execAdcRegShiftImm (o : AluRegShiftImmOperands) (s : State) : Host.Outcome State Fault Refusal :=
  decodeAs (.aluRegShiftImm (o.toFields 5)) s

/-- SBC, `Op` = 0x6: type 1, rendered "SBC" with the placeholder for operands (R80, R112, R115). -/
def execSbcRegShiftImm (o : AluRegShiftImmOperands) (s : State) : Host.Outcome State Fault Refusal :=
  decodeAs (.aluRegShiftImm (o.toFields 6)) s

/-- RSC, `Op` = 0x7: type 1, rendered "RSC" with the placeholder for operands (R80, R112, R115). -/
def execRscRegShiftImm (o : AluRegShiftImmOperands) (s : State) : Host.Outcome State Fault Refusal :=
  decodeAs (.aluRegShiftImm (o.toFields 7)) s

/-- TST, `Op` = 0x8, `S` = 1, `Rd` = 0 (R73): type 1, rendered "TST" with the placeholder for operands (R80, R112, R115). -/
def execTstRegShiftImmRd0 (o : CmpRegShiftImmOperands) (s : State) : Host.Outcome State Fault Refusal :=
  decodeAs (.aluRegShiftImm (o.toFields 8 0)) s

/-- TST, `Op` = 0x8, `S` = 1, `Rd` = 15 (R73): type 1, rendered "TST" with the placeholder for operands (R80, R112, R115). -/
def execTstRegShiftImmRd15 (o : CmpRegShiftImmOperands) (s : State) : Host.Outcome State Fault Refusal :=
  decodeAs (.aluRegShiftImm (o.toFields 8 15)) s

/-- TEQ, `Op` = 0x9, `S` = 1, `Rd` = 0 (R73): type 1, rendered "TEQ" with the placeholder for operands (R80, R112, R115). -/
def execTeqRegShiftImmRd0 (o : CmpRegShiftImmOperands) (s : State) : Host.Outcome State Fault Refusal :=
  decodeAs (.aluRegShiftImm (o.toFields 9 0)) s

/-- TEQ, `Op` = 0x9, `S` = 1, `Rd` = 15 (R73): type 1, rendered "TEQ" with the placeholder for operands (R80, R112, R115). -/
def execTeqRegShiftImmRd15 (o : CmpRegShiftImmOperands) (s : State) : Host.Outcome State Fault Refusal :=
  decodeAs (.aluRegShiftImm (o.toFields 9 15)) s

/-- CMP, `Op` = 0xA, `S` = 1, `Rd` = 0 (R73): type 1, rendered "CMP" with the placeholder for operands (R80, R112, R115). -/
def execCmpRegShiftImmRd0 (o : CmpRegShiftImmOperands) (s : State) : Host.Outcome State Fault Refusal :=
  decodeAs (.aluRegShiftImm (o.toFields 10 0)) s

/-- CMP, `Op` = 0xA, `S` = 1, `Rd` = 15 (R73): type 1, rendered "CMP" with the placeholder for operands (R80, R112, R115). -/
def execCmpRegShiftImmRd15 (o : CmpRegShiftImmOperands) (s : State) : Host.Outcome State Fault Refusal :=
  decodeAs (.aluRegShiftImm (o.toFields 10 15)) s

/-- CMN, `Op` = 0xB, `S` = 1, `Rd` = 0 (R73): type 1, rendered "CMN" with the placeholder for operands (R80, R112, R115). -/
def execCmnRegShiftImmRd0 (o : CmpRegShiftImmOperands) (s : State) : Host.Outcome State Fault Refusal :=
  decodeAs (.aluRegShiftImm (o.toFields 11 0)) s

/-- CMN, `Op` = 0xB, `S` = 1, `Rd` = 15 (R73): type 1, rendered "CMN" with the placeholder for operands (R80, R112, R115). -/
def execCmnRegShiftImmRd15 (o : CmpRegShiftImmOperands) (s : State) : Host.Outcome State Fault Refusal :=
  decodeAs (.aluRegShiftImm (o.toFields 11 15)) s

/-- ORR, `Op` = 0xC: type 1, rendered "ORR" with the placeholder for operands (R80, R112, R115). -/
def execOrrRegShiftImm (o : AluRegShiftImmOperands) (s : State) : Host.Outcome State Fault Refusal :=
  decodeAs (.aluRegShiftImm (o.toFields 12)) s

/-- MOV, `Op` = 0xD: type 1, rendered "MOV" with the placeholder for operands (R80, R112, R115). -/
def execMovRegShiftImm (o : AluRegShiftImmOperands) (s : State) : Host.Outcome State Fault Refusal :=
  decodeAs (.aluRegShiftImm (o.toFields 13)) s

/-- BIC, `Op` = 0xE: type 1, rendered "BIC" with the placeholder for operands (R80, R112, R115). -/
def execBicRegShiftImm (o : AluRegShiftImmOperands) (s : State) : Host.Outcome State Fault Refusal :=
  decodeAs (.aluRegShiftImm (o.toFields 14)) s

/-- MVN, `Op` = 0xF: type 1, rendered "MVN" with the placeholder for operands (R80, R112, R115). -/
def execMvnRegShiftImm (o : AluRegShiftImmOperands) (s : State) : Host.Outcome State Fault Refusal :=
  decodeAs (.aluRegShiftImm (o.toFields 15)) s

end Sys2Proof.Machine
end

