-- ==== Sys2Proof/Machine/AluRegShiftReg.lean ====
section
/-! DEFINITION. The meanings of the ALU instructions with a register operand shifted by a register (R81). They compute nothing and write no register and no flag (R190). -/

namespace Sys2Proof.Machine

/-- AND, `Op` = 0x0: type 2, rendered "AND" with the placeholder for operands (R81, R112, R115). -/
def execAndRegShiftReg (o : AluRegShiftRegOperands) (s : State) : Host.Outcome State Fault Refusal :=
  decodeAs (.aluRegShiftReg (o.toFields 0)) s

/-- EOR, `Op` = 0x1: type 2, rendered "EOR" with the placeholder for operands (R81, R112, R115). -/
def execEorRegShiftReg (o : AluRegShiftRegOperands) (s : State) : Host.Outcome State Fault Refusal :=
  decodeAs (.aluRegShiftReg (o.toFields 1)) s

/-- SUB, `Op` = 0x2: type 2, rendered "SUB" with the placeholder for operands (R81, R112, R115). -/
def execSubRegShiftReg (o : AluRegShiftRegOperands) (s : State) : Host.Outcome State Fault Refusal :=
  decodeAs (.aluRegShiftReg (o.toFields 2)) s

/-- RSB, `Op` = 0x3: type 2, rendered "RSB" with the placeholder for operands (R81, R112, R115). -/
def execRsbRegShiftReg (o : AluRegShiftRegOperands) (s : State) : Host.Outcome State Fault Refusal :=
  decodeAs (.aluRegShiftReg (o.toFields 3)) s

/-- ADD, `Op` = 0x4: type 2, rendered "ADD" with the placeholder for operands (R81, R112, R115). -/
def execAddRegShiftReg (o : AluRegShiftRegOperands) (s : State) : Host.Outcome State Fault Refusal :=
  decodeAs (.aluRegShiftReg (o.toFields 4)) s

/-- ADC, `Op` = 0x5: type 2, rendered "ADC" with the placeholder for operands (R81, R112, R115). -/
def execAdcRegShiftReg (o : AluRegShiftRegOperands) (s : State) : Host.Outcome State Fault Refusal :=
  decodeAs (.aluRegShiftReg (o.toFields 5)) s

/-- SBC, `Op` = 0x6: type 2, rendered "SBC" with the placeholder for operands (R81, R112, R115). -/
def execSbcRegShiftReg (o : AluRegShiftRegOperands) (s : State) : Host.Outcome State Fault Refusal :=
  decodeAs (.aluRegShiftReg (o.toFields 6)) s

/-- RSC, `Op` = 0x7: type 2, rendered "RSC" with the placeholder for operands (R81, R112, R115). -/
def execRscRegShiftReg (o : AluRegShiftRegOperands) (s : State) : Host.Outcome State Fault Refusal :=
  decodeAs (.aluRegShiftReg (o.toFields 7)) s

/-- TST, `Op` = 0x8, `S` = 1, `Rd` = 0 (R73): type 2, rendered "TST" with the placeholder for operands (R81, R112, R115). -/
def execTstRegShiftRegRd0 (o : CmpRegShiftRegOperands) (s : State) : Host.Outcome State Fault Refusal :=
  decodeAs (.aluRegShiftReg (o.toFields 8 0)) s

/-- TST, `Op` = 0x8, `S` = 1, `Rd` = 15 (R73): type 2, rendered "TST" with the placeholder for operands (R81, R112, R115). -/
def execTstRegShiftRegRd15 (o : CmpRegShiftRegOperands) (s : State) : Host.Outcome State Fault Refusal :=
  decodeAs (.aluRegShiftReg (o.toFields 8 15)) s

/-- TEQ, `Op` = 0x9, `S` = 1, `Rd` = 0 (R73): type 2, rendered "TEQ" with the placeholder for operands (R81, R112, R115). -/
def execTeqRegShiftRegRd0 (o : CmpRegShiftRegOperands) (s : State) : Host.Outcome State Fault Refusal :=
  decodeAs (.aluRegShiftReg (o.toFields 9 0)) s

/-- TEQ, `Op` = 0x9, `S` = 1, `Rd` = 15 (R73): type 2, rendered "TEQ" with the placeholder for operands (R81, R112, R115). -/
def execTeqRegShiftRegRd15 (o : CmpRegShiftRegOperands) (s : State) : Host.Outcome State Fault Refusal :=
  decodeAs (.aluRegShiftReg (o.toFields 9 15)) s

/-- CMP, `Op` = 0xA, `S` = 1, `Rd` = 0 (R73): type 2, rendered "CMP" with the placeholder for operands (R81, R112, R115). -/
def execCmpRegShiftRegRd0 (o : CmpRegShiftRegOperands) (s : State) : Host.Outcome State Fault Refusal :=
  decodeAs (.aluRegShiftReg (o.toFields 10 0)) s

/-- CMP, `Op` = 0xA, `S` = 1, `Rd` = 15 (R73): type 2, rendered "CMP" with the placeholder for operands (R81, R112, R115). -/
def execCmpRegShiftRegRd15 (o : CmpRegShiftRegOperands) (s : State) : Host.Outcome State Fault Refusal :=
  decodeAs (.aluRegShiftReg (o.toFields 10 15)) s

/-- CMN, `Op` = 0xB, `S` = 1, `Rd` = 0 (R73): type 2, rendered "CMN" with the placeholder for operands (R81, R112, R115). -/
def execCmnRegShiftRegRd0 (o : CmpRegShiftRegOperands) (s : State) : Host.Outcome State Fault Refusal :=
  decodeAs (.aluRegShiftReg (o.toFields 11 0)) s

/-- CMN, `Op` = 0xB, `S` = 1, `Rd` = 15 (R73): type 2, rendered "CMN" with the placeholder for operands (R81, R112, R115). -/
def execCmnRegShiftRegRd15 (o : CmpRegShiftRegOperands) (s : State) : Host.Outcome State Fault Refusal :=
  decodeAs (.aluRegShiftReg (o.toFields 11 15)) s

/-- ORR, `Op` = 0xC: type 2, rendered "ORR" with the placeholder for operands (R81, R112, R115). -/
def execOrrRegShiftReg (o : AluRegShiftRegOperands) (s : State) : Host.Outcome State Fault Refusal :=
  decodeAs (.aluRegShiftReg (o.toFields 12)) s

/-- MOV, `Op` = 0xD: type 2, rendered "MOV" with the placeholder for operands (R81, R112, R115). -/
def execMovRegShiftReg (o : AluRegShiftRegOperands) (s : State) : Host.Outcome State Fault Refusal :=
  decodeAs (.aluRegShiftReg (o.toFields 13)) s

/-- BIC, `Op` = 0xE: type 2, rendered "BIC" with the placeholder for operands (R81, R112, R115). -/
def execBicRegShiftReg (o : AluRegShiftRegOperands) (s : State) : Host.Outcome State Fault Refusal :=
  decodeAs (.aluRegShiftReg (o.toFields 14)) s

/-- MVN, `Op` = 0xF: type 2, rendered "MVN" with the placeholder for operands (R81, R112, R115). -/
def execMvnRegShiftReg (o : AluRegShiftRegOperands) (s : State) : Host.Outcome State Fault Refusal :=
  decodeAs (.aluRegShiftReg (o.toFields 15)) s

end Sys2Proof.Machine
end

