-- ==== Sys2Proof/Machine/Branch.lean ====
section
/-! DEFINITION. The meanings of the branches and branch-exchanges (R85, R100). They redirect nothing and write no link register (R191); the target of B and BL is text only (R118). -/

namespace Sys2Proof.Machine

/-- BX: type 6, `L` = 0, rendered "BX" with the register its `Rn` field names (R85, R116). -/
def execBx (o : BranchExchangeOperands) (s : State) : Host.Outcome State Fault Refusal :=
  decodeAs (.branchExchange (o.toFields 0)) s

/-- BLX: type 6, `L` = 1, rendered "BLX" with the register its `Rn` field names (R85, R116). -/
def execBlx (o : BranchExchangeOperands) (s : State) : Host.Outcome State Fault Refusal :=
  decodeAs (.branchExchange (o.toFields 1)) s

/-- B: type 16, `L` = 0, rendered "B" with the condition suffix and the target as a label (R100, R118, R119). -/
def execB (o : BranchOperands) (s : State) : Host.Outcome State Fault Refusal :=
  decodeAs (.branch (o.toFields 0)) s

/-- BL: type 16, `L` = 1, rendered "BL" with the condition suffix and the target as a label (R100, R118, R119). -/
def execBl (o : BranchOperands) (s : State) : Host.Outcome State Fault Refusal :=
  decodeAs (.branch (o.toFields 1)) s

end Sys2Proof.Machine
end

