-- ==== Sys2Proof/Machine/Coproc.lean ====
section
/-! DEFINITION. The meanings of the coprocessor formats (R101, R102, R103). They reach no coprocessor (R101, R171). -/

namespace Sys2Proof.Machine

/-- COPROC_DATA_TRANSFER: type 17, rendered as its placeholder (R101, R120). -/
def execCoprocDataTransfer (o : CoprocDataTransferFields) (s : State) : Host.Outcome State Fault Refusal :=
  decodeAs (.coprocDataTransfer o) s

/-- COPROC_DATA_OP: type 18, rendered as its placeholder (R102, R120). -/
def execCoprocDataOp (o : CoprocDataOpFields) (s : State) : Host.Outcome State Fault Refusal :=
  decodeAs (.coprocDataOp o) s

/-- COPROC_REG_TRANSFER: type 19, rendered as its placeholder (R103, R120). -/
def execCoprocRegTransfer (o : CoprocRegTransferFields) (s : State) : Host.Outcome State Fault Refusal :=
  decodeAs (.coprocRegTransfer o) s

end Sys2Proof.Machine
end

