-- ==== Sys2Proof/Machine/Multiply.lean ====
section
/-! DEFINITION. The meanings of the multiplies (R90, R91) and the unassigned code 3, whose rendering raises `UnknownMnemonic` (R113, R117, R164). They compute nothing (R190). -/

namespace Sys2Proof.Machine

/-- MUL: type 7, `Op` = 0, rendered "MUL" (R90, R113, R117). -/
def execMul (o : MultiplyOperands) (s : State) : Host.Outcome State Fault Refusal :=
  decodeAs (.multiply (o.toFields 0)) s

/-- MLA: type 7, `Op` = 1, rendered "MLA" (R90, R113, R117). -/
def execMla (o : MultiplyOperands) (s : State) : Host.Outcome State Fault Refusal :=
  decodeAs (.multiply (o.toFields 1)) s

/-- UMAAL: type 7, `Op` = 2, rendered "UMAAL" (R90, R113, R117). -/
def execUmaal (o : MultiplyOperands) (s : State) : Host.Outcome State Fault Refusal :=
  decodeAs (.multiply (o.toFields 2)) s

/-- Multiply code 3, unassigned: classified as type 7; rendering it raises `UnknownMnemonic` (R90, R113, R117, R157). -/
def execMulOp3Unassigned (o : MultiplyOperands) (s : State) : Host.Outcome State Fault Refusal :=
  decodeAs (.multiply (o.toFields 3)) s

/-- UMULL: type 8, `Op` = 4, rendered "UMULL" (R91, R113, R117). -/
def execUmull (o : MultiplyLongOperands) (s : State) : Host.Outcome State Fault Refusal :=
  decodeAs (.multiplyLong (o.toFields 4)) s

/-- UMLAL: type 8, `Op` = 5, rendered "UMLAL" (R91, R113, R117). -/
def execUmlal (o : MultiplyLongOperands) (s : State) : Host.Outcome State Fault Refusal :=
  decodeAs (.multiplyLong (o.toFields 5)) s

/-- SMULL: type 8, `Op` = 6, rendered "SMULL" (R91, R113, R117). -/
def execSmull (o : MultiplyLongOperands) (s : State) : Host.Outcome State Fault Refusal :=
  decodeAs (.multiplyLong (o.toFields 6)) s

/-- SMLAL: type 8, `Op` = 7, rendered "SMLAL" (R91, R113, R117). -/
def execSmlal (o : MultiplyLongOperands) (s : State) : Host.Outcome State Fault Refusal :=
  decodeAs (.multiplyLong (o.toFields 7)) s

end Sys2Proof.Machine
end

