-- ==== Sys2Proof/Machine/Psr.lean ====
section
/-! DEFINITION. The meanings of the status-register transfers (R83, R84). They transfer nothing: no status register is read or written (R171). -/

namespace Sys2Proof.Machine

/-- PSR_IMM: type 4, rendered as its placeholder (R83, R120). -/
def execPsrImm (o : PsrImmFields) (s : State) : Host.Outcome State Fault Refusal :=
  decodeAs (.psrImm o) s

/-- PSR_REG: type 5, rendered as its placeholder (R84, R120). -/
def execPsrReg (o : PsrRegFields) (s : State) : Host.Outcome State Fault Refusal :=
  decodeAs (.psrReg o) s

end Sys2Proof.Machine
end

