-- ==== Sys2Proof/Machine/System.lean ====
section
/-! DEFINITION. The meanings of the undefined-instruction and software-interrupt formats (R97, R104). They take no trap (R171). -/

namespace Sys2Proof.Machine

/-- UNDEFINED: type 14, rendered as its placeholder (R97, R120). -/
def execUndefined (o : UndefinedFields) (s : State) : Host.Outcome State Fault Refusal :=
  decodeAs (.undefined o) s

/-- SOFTWARE_INTERRUPT: type 20, rendered as its placeholder (R104, R120). -/
def execSoftwareInterrupt (o : SoftwareInterruptFields) (s : State) : Host.Outcome State Fault Refusal :=
  decodeAs (.softwareInterrupt o) s

end Sys2Proof.Machine
end

