-- ==== Sys2Proof/Machine/Transfer.lean ====
section
/-! DEFINITION. The meanings of swap, halfword, byte/word and block transfers (R92 to R96, R98). They access no memory and no register (R192). -/

namespace Sys2Proof.Machine

/-- SWAP: type 9, rendered as its placeholder (R92, R120). -/
def execSwap (o : SwapFields) (s : State) : Host.Outcome State Fault Refusal :=
  decodeAs (.swap o) s

/-- HALFWORD_REG: type 10, rendered as its placeholder (R93, R120). -/
def execHalfwordReg (o : HalfwordRegFields) (s : State) : Host.Outcome State Fault Refusal :=
  decodeAs (.halfwordReg o) s

/-- HALFWORD_IMM: type 11, rendered as its placeholder (R94, R120). -/
def execHalfwordImm (o : HalfwordImmFields) (s : State) : Host.Outcome State Fault Refusal :=
  decodeAs (.halfwordImm o) s

/-- TRANSFER_REG: type 12, rendered as its placeholder (R95, R120). -/
def execTransferReg (o : TransferRegFields) (s : State) : Host.Outcome State Fault Refusal :=
  decodeAs (.transferReg o) s

/-- TRANSFER_IMM: type 13, rendered as its placeholder (R96, R120). -/
def execTransferImm (o : TransferImmFields) (s : State) : Host.Outcome State Fault Refusal :=
  decodeAs (.transferImm o) s

/-- BLOCK_TRANSFER: type 15, rendered as its placeholder (R98, R120). -/
def execBlockTransfer (o : BlockTransferFields) (s : State) : Host.Outcome State Fault Refusal :=
  decodeAs (.blockTransfer o) s

end Sys2Proof.Machine
end

