-- ==== Sys2Proof/Machine/Dispatch.lean ====
section
/-! DEFINITION. The dispatch: one arm per instruction, one direct call of its meaning. `exec i s` is what the CORE does
with the instruction `i` that stands in slot D: the decode-and-render sub-step (R152). The executing of it a cycle later
is a no-op for every instruction alike (R153) and stands in Cycle.lean (log entry 9). -/

namespace Sys2Proof.Machine

def exec (i : Instr) (s : State) : Host.Outcome State Fault Refusal :=
  match i with
  | .andRegShiftImm o => Sys2Proof.Machine.execAndRegShiftImm o s
  | .eorRegShiftImm o => Sys2Proof.Machine.execEorRegShiftImm o s
  | .subRegShiftImm o => Sys2Proof.Machine.execSubRegShiftImm o s
  | .rsbRegShiftImm o => Sys2Proof.Machine.execRsbRegShiftImm o s
  | .addRegShiftImm o => Sys2Proof.Machine.execAddRegShiftImm o s
  | .adcRegShiftImm o => Sys2Proof.Machine.execAdcRegShiftImm o s
  | .sbcRegShiftImm o => Sys2Proof.Machine.execSbcRegShiftImm o s
  | .rscRegShiftImm o => Sys2Proof.Machine.execRscRegShiftImm o s
  | .tstRegShiftImmRd0 o => Sys2Proof.Machine.execTstRegShiftImmRd0 o s
  | .tstRegShiftImmRd15 o => Sys2Proof.Machine.execTstRegShiftImmRd15 o s
  | .teqRegShiftImmRd0 o => Sys2Proof.Machine.execTeqRegShiftImmRd0 o s
  | .teqRegShiftImmRd15 o => Sys2Proof.Machine.execTeqRegShiftImmRd15 o s
  | .cmpRegShiftImmRd0 o => Sys2Proof.Machine.execCmpRegShiftImmRd0 o s
  | .cmpRegShiftImmRd15 o => Sys2Proof.Machine.execCmpRegShiftImmRd15 o s
  | .cmnRegShiftImmRd0 o => Sys2Proof.Machine.execCmnRegShiftImmRd0 o s
  | .cmnRegShiftImmRd15 o => Sys2Proof.Machine.execCmnRegShiftImmRd15 o s
  | .orrRegShiftImm o => Sys2Proof.Machine.execOrrRegShiftImm o s
  | .movRegShiftImm o => Sys2Proof.Machine.execMovRegShiftImm o s
  | .bicRegShiftImm o => Sys2Proof.Machine.execBicRegShiftImm o s
  | .mvnRegShiftImm o => Sys2Proof.Machine.execMvnRegShiftImm o s
  | .andRegShiftReg o => Sys2Proof.Machine.execAndRegShiftReg o s
  | .eorRegShiftReg o => Sys2Proof.Machine.execEorRegShiftReg o s
  | .subRegShiftReg o => Sys2Proof.Machine.execSubRegShiftReg o s
  | .rsbRegShiftReg o => Sys2Proof.Machine.execRsbRegShiftReg o s
  | .addRegShiftReg o => Sys2Proof.Machine.execAddRegShiftReg o s
  | .adcRegShiftReg o => Sys2Proof.Machine.execAdcRegShiftReg o s
  | .sbcRegShiftReg o => Sys2Proof.Machine.execSbcRegShiftReg o s
  | .rscRegShiftReg o => Sys2Proof.Machine.execRscRegShiftReg o s
  | .tstRegShiftRegRd0 o => Sys2Proof.Machine.execTstRegShiftRegRd0 o s
  | .tstRegShiftRegRd15 o => Sys2Proof.Machine.execTstRegShiftRegRd15 o s
  | .teqRegShiftRegRd0 o => Sys2Proof.Machine.execTeqRegShiftRegRd0 o s
  | .teqRegShiftRegRd15 o => Sys2Proof.Machine.execTeqRegShiftRegRd15 o s
  | .cmpRegShiftRegRd0 o => Sys2Proof.Machine.execCmpRegShiftRegRd0 o s
  | .cmpRegShiftRegRd15 o => Sys2Proof.Machine.execCmpRegShiftRegRd15 o s
  | .cmnRegShiftRegRd0 o => Sys2Proof.Machine.execCmnRegShiftRegRd0 o s
  | .cmnRegShiftRegRd15 o => Sys2Proof.Machine.execCmnRegShiftRegRd15 o s
  | .orrRegShiftReg o => Sys2Proof.Machine.execOrrRegShiftReg o s
  | .movRegShiftReg o => Sys2Proof.Machine.execMovRegShiftReg o s
  | .bicRegShiftReg o => Sys2Proof.Machine.execBicRegShiftReg o s
  | .mvnRegShiftReg o => Sys2Proof.Machine.execMvnRegShiftReg o s
  | .andImm o => Sys2Proof.Machine.execAndImm o s
  | .eorImm o => Sys2Proof.Machine.execEorImm o s
  | .subImm o => Sys2Proof.Machine.execSubImm o s
  | .rsbImm o => Sys2Proof.Machine.execRsbImm o s
  | .addImm o => Sys2Proof.Machine.execAddImm o s
  | .adcImm o => Sys2Proof.Machine.execAdcImm o s
  | .sbcImm o => Sys2Proof.Machine.execSbcImm o s
  | .rscImm o => Sys2Proof.Machine.execRscImm o s
  | .tstImmRd0 o => Sys2Proof.Machine.execTstImmRd0 o s
  | .tstImmRd15 o => Sys2Proof.Machine.execTstImmRd15 o s
  | .teqImmRd0 o => Sys2Proof.Machine.execTeqImmRd0 o s
  | .teqImmRd15 o => Sys2Proof.Machine.execTeqImmRd15 o s
  | .cmpImmRd0 o => Sys2Proof.Machine.execCmpImmRd0 o s
  | .cmpImmRd15 o => Sys2Proof.Machine.execCmpImmRd15 o s
  | .cmnImmRd0 o => Sys2Proof.Machine.execCmnImmRd0 o s
  | .cmnImmRd15 o => Sys2Proof.Machine.execCmnImmRd15 o s
  | .orrImm o => Sys2Proof.Machine.execOrrImm o s
  | .movImm o => Sys2Proof.Machine.execMovImm o s
  | .bicImm o => Sys2Proof.Machine.execBicImm o s
  | .mvnImm o => Sys2Proof.Machine.execMvnImm o s
  | .psrImm o => Sys2Proof.Machine.execPsrImm o s
  | .psrReg o => Sys2Proof.Machine.execPsrReg o s
  | .bx o => Sys2Proof.Machine.execBx o s
  | .blx o => Sys2Proof.Machine.execBlx o s
  | .mul o => Sys2Proof.Machine.execMul o s
  | .mla o => Sys2Proof.Machine.execMla o s
  | .umaal o => Sys2Proof.Machine.execUmaal o s
  | .mulOp3Unassigned o => Sys2Proof.Machine.execMulOp3Unassigned o s
  | .umull o => Sys2Proof.Machine.execUmull o s
  | .umlal o => Sys2Proof.Machine.execUmlal o s
  | .smull o => Sys2Proof.Machine.execSmull o s
  | .smlal o => Sys2Proof.Machine.execSmlal o s
  | .swap o => Sys2Proof.Machine.execSwap o s
  | .halfwordReg o => Sys2Proof.Machine.execHalfwordReg o s
  | .halfwordImm o => Sys2Proof.Machine.execHalfwordImm o s
  | .transferReg o => Sys2Proof.Machine.execTransferReg o s
  | .transferImm o => Sys2Proof.Machine.execTransferImm o s
  | .undefined o => Sys2Proof.Machine.execUndefined o s
  | .blockTransfer o => Sys2Proof.Machine.execBlockTransfer o s
  | .b o => Sys2Proof.Machine.execB o s
  | .bl o => Sys2Proof.Machine.execBl o s
  | .coprocDataTransfer o => Sys2Proof.Machine.execCoprocDataTransfer o s
  | .coprocDataOp o => Sys2Proof.Machine.execCoprocDataOp o s
  | .coprocRegTransfer o => Sys2Proof.Machine.execCoprocRegTransfer o s
  | .softwareInterrupt o => Sys2Proof.Machine.execSoftwareInterrupt o s

end Sys2Proof.Machine
end

