-- ==== Sys2Proof/Machine/Cycle.lean ====
section
/-! DEFINITION. The cycle of PIPE (46_pipeline.md of spec/): shift and fetch (R151, R156), decode and render (R152, R157),
execute and release (R153); then one operation of the CORE, a host request or a cycle (R8, R141), and the placing of a
fetched word for the host's probe. -/

namespace Sys2Proof.Machine

/-- The output ports as an operation finds them: empty (log entry 8). -/
def State.clearOut (s : State) : State := { s with out := {} }

/-- The shift, and the fetched word `w` into slot F at the address the pc holds; then the pc advances by 4 (R151). -/
def State.shiftIn (s : State) (w : Word) : State :=
  { s with
    slotX := s.slotD
    slotD := s.slotF
    slotF := some { address := s.pc, opcode := w, decoded := none }
    out := { s.out with fetched := some (s.pc, w) }
    x := s.x.set 15 (s.pc + 4) }

/-- Shift and fetch, if slot X is empty (R151). The fetch is made before any slot moves; if it fails, the error is the
answer and nothing has changed (R156). -/
def shiftAndFetch (s : State) : Except Error State :=
  match s.slotX with
  | some _ => .ok s
  | none =>
    match read32 s.mem s.pc with
    | .error e => .error e
    | .ok w => .ok (s.shiftIn w)

/-- Decode and render, if slot D is occupied (R152): the meaning of the instruction in D, or the UNKNOWN outcome. -/
def decodeAndRender (s : State) : Host.Outcome State Fault Refusal :=
  match s.slotD with
  | none => .next s
  | some I =>
    match decodeWord I.opcode with
    | some i => exec i s
    | none => decodeUnknown s

/-- Execute and release, if slot X is occupied (R153): the execution stage is a no-op, the slot is emptied and the
instruction stands on the port `executed`. -/
def executeAndRelease (s : State) : State :=
  match s.slotX with
  | none => s
  | some I => { s with slotX := none, out := { s.out with executed := some I } }

/-- The end of a cycle after its decode sub-step: after a decode error execute and release is not performed (R157). -/
def finishCycle : Host.Outcome State Fault Refusal → Host.Outcome State Fault Refusal
  | .next s => if s.fault.isSome then .next s else .next (executeAndRelease s)
  | .fault f => .fault f
  | .refused r => .refused r

/-- One PIPE cycle (R150): defined only while the latch is clear (R20; log entry 12). -/
def cycle (s : State) : Host.Outcome State Fault Refusal :=
  match s.fault with
  | some e => .fault (.latched e)
  | none =>
    match shiftAndFetch s.clearOut with
    | .error e => .next (s.clearOut.latch e)
    | .ok t => finishCycle (decodeAndRender t)

/-- ASC serves a host command (R130, R142): memory and the reply port, nothing else. -/
def State.serve (s : State) (c : Command) : State :=
  { s with mem := (serveCommand s.mem c).1, out := { reply := some (serveCommand s.mem c).2 } }

/-- One request of the host (R8): reset, an ASC command, or a cycle with its format options. -/
def serveRequest (s : State) : Request → Host.Outcome State Fault Refusal
  | .reset => .next s.hostReset
  | .command c => .next (s.serve c)
  | .cycle o => cycle { s with options := o }

/-- One operation of the CORE (R8, R141): the host's next request if one is pending, else a cycle with the format options
in force (log entry 6). -/
def operation (s : State) : Host.Outcome State Fault Refusal :=
  match s.requests with
  | r :: rest => serveRequest { s with requests := rest } r
  | [] => cycle s

/-! ## Placing a word as the one the next cycle decodes -/

/-- The four bytes at an address can be fetched (R38, R133). -/
def fetchable (a : Word) : Bool := (accessCheck a.toNat 4).isNone

/-- Where the probe's word stands: at the pc, if that word and the one after it can be fetched, else at the entry point 0
(R21; log entry 10). -/
def probeAddress (s : State) : Word := if fetchable s.pc && fetchable (s.pc + 4) then s.pc else 0

/-- The state as a cycle that has just fetched the word `w` from the probe's address leaves it: the word is in memory there
and in slot F, the pc is past it, PIPE can step and no host request comes first (log entry 10). -/
def State.placeFetched (s : State) (w : Word) : State :=
  { s with
    mem := writeBytes s.mem (probeAddress s).toNat (bytesOfWord w)
    slotF := some { address := probeAddress s, opcode := w, decoded := none }
    slotX := none
    fault := none
    requests := []
    x := s.x.set 15 (probeAddress s + 4) }

end Sys2Proof.Machine
end

