-- ==== Sys2Proof/Machine/Step.lean ====
section
/-! DEFINITION. The step: one operation of the CORE (R8, R150). -/

namespace Sys2Proof.Machine

/-- One step: the host's next request, or a PIPE cycle. -/
def step (s : State) : Host.Outcome State Fault Refusal := operation s

/-- The state in which the very next step decodes and renders exactly the opcode-table word `w` of `nbits` bits: PIPE
decodes in a cycle the word the cycle before fetched, so the word stands in slot F (R152, R154; log entry 10). -/
def State.withFetchWord (s : State) (nbits w : Nat) : State := s.placeFetched (tableWord nbits w)

end Sys2Proof.Machine
end

