-- ==== Sys2Proof/Safety.lean ====
section
/-! DEFINITION. What counts as a safe step, and the invariant of PIPE between operations (R155). -/

namespace Sys2Proof.Machine

/-- The step completes and latches no error: the CORE goes on. -/
def StepsSafely (s : State) : Prop := ∃ t, step s = .next t ∧ t.fault = none

/-- The classification a slot holds is that of its word (R15, R78). -/
def DecodedInstruction.agrees (I : DecodedInstruction) : Prop := ∀ c, I.decoded = some c → c = classify I.opcode

/-- The registers no rule writes hold zero (R11, R13, R14). -/
def InertZero (s : State) : Prop :=
  (∀ i : Fin 16, i ≠ 15 → s.readReg i = 0) ∧ s.bank = .zero ∧ s.psr = .zero

/-- What holds between operations (R155, R12): the pc is a multiple of 4 that has not passed the end of BIOS; X is empty
unless an error is latched; the instruction in F was fetched at pc - 4 and is not decoded, the one in D at pc - 8 and the
one in X at pc - 12; a slot is occupied only if the one before it is. -/
structure PipeInv (s : State) : Prop where
  pcAligned : s.pc.toNat % 4 = 0
  pcInBios : s.pc.toNat ≤ 0x4000
  xEmpty : s.fault = none → s.slotX = none
  fAddress : ∀ I, s.slotF = some I → I.address + 4 = s.pc ∧ I.decoded = none
  dAddress : ∀ I, s.slotD = some I → I.address + 8 = s.pc ∧ s.slotF.isSome
  dDecoded : ∀ I, s.slotD = some I → s.fault = none → I.decoded = some (classify I.opcode)
  xAddress : ∀ I, s.slotX = some I → I.address + 12 = s.pc ∧ s.slotD.isSome

end Sys2Proof.Machine
end

