-- ==== Sys2Proof/Certificates/Slice0/Obligations.lean ====
section
/-! DEFINITION. The statements for the provers, from the numbered rules of spec/. Helper definitions first; they only name
what several statements say. -/

open Sys2Proof Sys2Proof.Machine

namespace Sys2Proof.Machine

/-- No decode error of the ambiguity policy for the instruction `I` (R77). -/
def Unambiguous (s : State) (I : DecodedInstruction) : Prop :=
  s.params.ambiguityFatal = false ∨ multiMatch I.opcode = false

/-- The state once the instruction `I` of slot D is decoded as `c` and rendered with this mnemonic, operand and body text
(R70, R110, R111, R122, R150, R152): slot D and the ports `dec` and `decoded` change, nothing else. -/
def decodedState (s : State) (I : DecodedInstruction) (c : Classification) (m : Mnemonic) (r : RenderedOperand)
    (bodyText : String) : State :=
  { s with
    slotD := some { I with decoded := some c }
    out := { s.out with
      dec := some { result := .decoded c, matchVec := matchVec I.opcode, multiMatch := multiMatch I.opcode }
      decoded := some {
        instruction := { I with decoded := some c }
        rendered := {
          address := if s.options.showAddress then some I.address else none
          opcode := if s.options.showOpcode then some I.opcode else none
          mnemonic := m
          operand := r }
        text := (if s.options.showAddress then hex8 I.address ++ " : " else "")
          ++ (if s.options.showOpcode then hex8 I.opcode ++ " | " else "") ++ bodyText } } }

/-- `TXT_PLACEHOLDER` of a type whose name is written out here: the text the parameters give the type, by default the name
in brackets (R120, R124; log entry 5). -/
def bracketedName (p : Config.Params) (k : Kind) (name : String) : String :=
  match p.txtPlaceholder.find? (fun e => e.1 == k) with
  | some e => e.2
  | none => "[" ++ name ++ "]"

/-- The same as `decodedState` for a type that renders as its placeholder, its name (R64) written out (R120). -/
def placeholderState (s : State) (I : DecodedInstruction) (c : Classification) (name : String) : State :=
  decodedState s I c (.placeholder c.kind) .none (bracketedName s.params c.kind name)

/-- PIPE can begin a cycle and no host request comes first: the latch is clear (R20), slot X is empty (R151). -/
def Ready (s : State) : Prop := s.requests = [] ∧ s.fault = none ∧ s.slotX = none

/-- The word is the hole of the multiply table: type 7 with `Op` = 3 (R113). -/
def isMultiplyHole (w : Word) : Prop := w.extractLsb' 21 7 = 0b0000011 ∧ w.extractLsb' 4 4 = 0b1001

/-- Neither decode error can arise from the word under these parameters (R77, R113). -/
def DecodesCleanly (p : Config.Params) (w : Word) : Prop :=
  ¬ isMultiplyHole w ∧ (p.ambiguityFatal = false ∨ multiMatch w = false)

/-- The valid addresses, zone by zone (R32, R50). -/
def validAddress (a : Nat) : Prop :=
  a < 0x4000 ∨ (0x02000000 ≤ a ∧ a < 0x02040000) ∨ (0x03000000 ≤ a ∧ a < 0x03008000)
  ∨ (0x04000000 ≤ a ∧ a < 0x040003FF) ∨ (0x05000000 ≤ a ∧ a < 0x05000400) ∨ (0x06000000 ≤ a ∧ a < 0x06018000)
  ∨ (0x07000000 ≤ a ∧ a < 0x07000400) ∨ (0x08000000 ≤ a ∧ a < 0x0E000000) ∨ (0x0E000000 ≤ a ∧ a < 0x0E010000)

/-- The sizes of the sixteen zones, zone 0 first (R32, R51). -/
def sixteenZoneSizes : List Nat :=
  [0x4000, 0, 0x40000, 0x8000, 0x3FF, 0x400, 0x18000, 0x400,
    0x1000000, 0x1000000, 0x1000000, 0x1000000, 0x1000000, 0x1000000, 0x10000, 0]

/-- The zones of two addresses are the same or one of the pairs (8, 9), (10, 11), (12, 13) (R36). -/
def sameZoneOrPair (a b : Nat) : Prop :=
  a / 0x1000000 = b / 0x1000000 ∨ (a / 0x1000000, b / 0x1000000) ∈ [(8, 9), (10, 11), (12, 13)]

/-- The offset of the address does not exceed the size of its zone, so it may be the end of a range (R36). -/
def offsetWithinZone (a : Nat) : Prop := a % 0x1000000 ≤ sixteenZoneSizes.getD (a / 0x1000000) 0

/-- The two states agree on everything but the registers no rule reads: x[0] to x[14], the banks, the status registers. -/
def SameButInert (s t : State) : Prop :=
  s.pc = t.pc ∧ s.slotF = t.slotF ∧ s.slotD = t.slotD ∧ s.slotX = t.slotX ∧ s.mem = t.mem ∧ s.fault = t.fault
  ∧ s.params = t.params ∧ s.options = t.options ∧ s.requests = t.requests ∧ s.out = t.out ∧ s.draws = t.draws

/-- `aluok` of the decision tree (R66). -/
def treeAluOk (w : Word) : Bool :=
  w.extractLsb' 23 2 != 0b10 || (w.extractLsb' 20 1 == 1 && (w.extractLsb' 12 4 == 0 || w.extractLsb' 12 4 == 15))

/-- The decision tree of R66, from a word to its type code. -/
def decisionTree (w : Word) : Nat :=
  match (w.extractLsb' 25 3).toNat with
  | 0b000 =>
    if w.extractLsb' 4 1 = 0 then
      if treeAluOk w then 1
      else if w.extractLsb' 23 5 = 0b00010 ∧ w.extractLsb' 20 1 = 0 ∧ w.extractLsb' 4 8 = 0 then 5
      else 0
    else if w.extractLsb' 7 1 = 0 then
      if treeAluOk w then 2
      else if w.extractLsb' 6 22 = 0b0001001011111111111100 then 6
      else 0
    else if w.extractLsb' 4 4 = 0b1001 ∧ w.extractLsb' 24 1 = 0 then
      if w.extractLsb' 23 1 = 0 then 7 else 8
    else if w.extractLsb' 23 5 = 0b00010 ∧ w.extractLsb' 20 2 = 0 ∧ w.extractLsb' 4 8 = 0b00001001 then 9
    else if w.extractLsb' 22 1 = 0 ∧ w.extractLsb' 8 4 = 0 then 10
    else if w.extractLsb' 22 1 = 1 then 11
    else 0
  | 0b001 => if treeAluOk w then 3 else if w.extractLsb' 20 2 = 0b10 then 4 else 0
  | 0b010 => 13
  | 0b011 => if w.extractLsb' 4 1 = 0 then 12 else 14
  | 0b100 => 15
  | 0b101 => 16
  | 0b110 => 17
  | _ => if w.extractLsb' 24 1 = 1 then 20 else if w.extractLsb' 4 1 = 0 then 18 else 19

/-- The sets U-a to U-d of UNKNOWN words (R67). -/
def inUnknownSets (w : Word) : Prop :=
  let rdBad := w.extractLsb' 20 1 = 1 ∧ w.extractLsb' 12 4 ≠ 0 ∧ w.extractLsb' 12 4 ≠ 15
  (w.extractLsb' 23 5 = 0b00110 ∧ (rdBad ∨ w.extractLsb' 20 2 = 0b00))
  ∨ (w.extractLsb' 23 5 = 0b00010 ∧ w.extractLsb' 4 1 = 0 ∧ (rdBad ∨ (w.extractLsb' 20 1 = 0 ∧ w.extractLsb' 5 7 ≠ 0)))
  ∨ (w.extractLsb' 23 5 = 0b00010 ∧ w.extractLsb' 7 1 = 0 ∧ w.extractLsb' 4 1 = 1
      ∧ (rdBad ∨ (w.extractLsb' 20 1 = 0 ∧ w &&& 0x0FFFFFD0 ≠ 0x012FFF10)))
  ∨ (w.extractLsb' 25 3 = 0b000 ∧ w.extractLsb' 22 1 = 0 ∧ w.extractLsb' 7 1 = 1 ∧ w.extractLsb' 4 1 = 1
      ∧ w.extractLsb' 8 4 ≠ 0 ∧ ¬ (w.extractLsb' 24 1 = 0 ∧ w.extractLsb' 5 2 = 0))

end Sys2Proof.Machine

/-! ## Encoding and classification -/

/-- R61, R62: words written out bit by bit from the patterns and field positions of the filter table. -/
def Obligations.SpecWordsDecodeToTheirInstructions : Prop :=
  decodeWord 0b11100001101000000000000000000000 = some (.movRegShiftImm
      { cond := 0xE, s := 0, rn := 0, rd := 0, shiftAmount := 0, shiftType := 0, rm := 0 })
  ∧ decodeWord 0b11100001010100001111000000000001 = some (.cmpRegShiftImmRd15
      { cond := 0xE, rn := 0, shiftAmount := 0, shiftType := 0, rm := 1 })
  ∧ decodeWord 0b11100001101100000001001100010010 = some (.movRegShiftReg
      { cond := 0xE, s := 1, rn := 0, rd := 1, rs := 3, shiftType := 0, rm := 2 })
  ∧ decodeWord 0b11100010010100100010000000000001 = some (.subImm
      { cond := 0xE, s := 1, rn := 2, rd := 2, rotate := 0, imm := 1 })
  ∧ decodeWord 0b11100001001010011111000000000000 = some (.psrReg
      { cond := 0xE, psr := 0, msr := 1, fieldMask := 9, rd := 0xF, rm := 0 })
  ∧ decodeWord 0b11100001001011111111111100111110 = some (.blx { cond := 0xE, rn := 0xE })
  ∧ decodeWord 0b11100000110000100001010010010011 = some (.smull
      { cond := 0xE, s := 0, rdHi := 2, rdLo := 1, rs := 4, rm := 3 })
  ∧ decodeWord 0b11100001110100010010000011110100 = some (.halfwordImm
      { cond := 0xE, p := 1, u := 1, w := 0, l := 1, rn := 1, rd := 2, offsetHi := 0, sh := 3, offsetLo := 4 })
  ∧ decodeWord 0b11101000101111011000000000000000 = some (.blockTransfer
      { cond := 0xE, p := 0, u := 1, s := 0, w := 1, l := 1, rn := 0xD, registerList := 0x8000 })
  ∧ decodeWord 0b00011011111111111111111111111101 = some (.bl { cond := 1, offset := 0xFFFFFD })
  ∧ decodeWord 0b11101110000100010000111100010000 = some (.coprocRegTransfer
      { cond := 0xE, cpOpc := 0, l := 1, crn := 1, rd := 0, cpNum := 15, cp := 0, crm := 0 })
  ∧ decodeWord 0b11101111000100100011010001010110 = some (.softwareInterrupt { cond := 0xE, comment := 0x123456 })
  ∧ decodeWord 0b11100001010100000101000000000001 = none

/-- Decode and encode agree: the bytes of every well-formed instruction, followed by anything, decode to it and leave the
rest. -/
def Obligations.DecodeOfEncodeGivesTheInstructionBack : Prop :=
  ∀ (i : Instr) (rest : List Byte), i.wellFormed = true → decode (encodeBytes i ++ rest) = .ok (i, rest)

/-- R62, last paragraph: a word of any type other than UNDEFINED and UNKNOWN is rebuilt from its type and its fields. -/
def Obligations.EncodeOfDecodeRebuildsTheWord : Prop :=
  ∀ (w : Word) (i : Instr), decodeWord w = some i → (∀ f, i ≠ .undefined f) → encode i = w

/-- Every word with a type is a well-formed instruction of that type with exactly the word's fields; an UNKNOWN word is
none. -/
def Obligations.EveryClassifiedWordIsAnInstruction : Prop :=
  ∀ w : Word,
    (decodeWord w = none ↔ kindOf w = .unknown)
    ∧ ∀ i, decodeWord w = some i → i.wellFormed = true ∧ i.classification = classify w

/-- R66: the decision tree is equivalent to the filters in priority order with the validity rule. -/
def Obligations.FiltersInPriorityOrderAreTheDecisionTree : Prop :=
  ∀ w : Word, (kindOf w).code = decisionTree w

/-- R67: the UNKNOWN words are exactly the union of the four sets; such a word has no fields. -/
def Obligations.UnknownWordsAreExactlyTheFourSets : Prop :=
  ∀ w : Word, (kindOf w = .unknown ↔ inUnknownSets w) ∧ (kindOf w = .unknown → classify w = .unknown ∧ fieldsOf w = [])

/-- R69: the words validly matched by more than one filter, set by set; none by three. -/
def Obligations.MultiMatchWordsAreExactlyTheSixSets : Prop :=
  ∀ w : Word,
    (validMatches w).length ≤ 2
    ∧ (multiMatch w = true ↔
        validMatches w = [.multiply, .halfwordReg] ∨ validMatches w = [.multiply, .halfwordImm]
        ∨ validMatches w = [.multiplyLong, .halfwordReg] ∨ validMatches w = [.multiplyLong, .halfwordImm]
        ∨ validMatches w = [.swap, .halfwordReg] ∨ validMatches w = [.swap, .halfwordImm])
    ∧ (validMatches w = [.multiply, .halfwordReg] ↔
        w.extractLsb' 22 6 = 0 ∧ w.extractLsb' 8 4 = 0 ∧ w.extractLsb' 4 4 = 0b1001)
    ∧ (validMatches w = [.multiply, .halfwordImm] ↔
        w.extractLsb' 23 5 = 0 ∧ w.extractLsb' 22 1 = 1 ∧ w.extractLsb' 4 4 = 0b1001)
    ∧ (validMatches w = [.multiplyLong, .halfwordReg] ↔
        w.extractLsb' 23 5 = 1 ∧ w.extractLsb' 22 1 = 0 ∧ w.extractLsb' 8 4 = 0 ∧ w.extractLsb' 4 4 = 0b1001)
    ∧ (validMatches w = [.multiplyLong, .halfwordImm] ↔
        w.extractLsb' 23 5 = 1 ∧ w.extractLsb' 22 1 = 1 ∧ w.extractLsb' 4 4 = 0b1001)
    ∧ (validMatches w = [.swap, .halfwordReg] ↔
        w.extractLsb' 23 5 = 2 ∧ w.extractLsb' 20 3 = 0b000 ∧ w.extractLsb' 4 8 = 0b00001001)
    ∧ (validMatches w = [.swap, .halfwordImm] ↔
        w.extractLsb' 23 5 = 2 ∧ w.extractLsb' 20 3 = 0b100 ∧ w.extractLsb' 4 8 = 0b00001001)

/-- R75: the stored field map is, name by name, `(opcode >> low) & ((1 << (high-low+1)) - 1)` for the extractors of the
selected filter, no value exceeds `2^(high-low+1) - 1` and no name occurs twice; the map is empty when no filter is
selected. -/
def Obligations.FieldMapIsTheExtractionFormula : Prop :=
  ∀ w : Word,
    (∀ f, selected w = some f →
      (classify w).fieldMap = f.extractors.map
        (fun e => (e.name, (w >>> e.lo) &&& ((1#32 <<< (e.hi - e.lo + 1)) - 1#32)))
      ∧ ((classify w).fieldMap.map (·.1)).Nodup
      ∧ ∀ e ∈ f.extractors, ((w >>> e.lo) &&& ((1#32 <<< (e.hi - e.lo + 1)) - 1#32)).toNat
          ≤ 2 ^ (e.hi - e.lo + 1) - 1)
    ∧ (selected w = none → (classify w).fieldMap = [])

/-- R72, R74, R76, R77: a bit of `match_vec` for each filter (bit i - 1 for filter i, log entry 13); the type is that of
the first valid match, UNKNOWN if there is none; `multi_match` says there are two. -/
def Obligations.TypeIsTheFirstValidMatch : Prop :=
  ∀ w : Word,
    (∀ f ∈ filters, (matchVec w).getLsbD (f.kind.code - 1) = f.validMatch w)
    ∧ (kindOf w = .unknown ↔ matchVec w = 0)
    ∧ (∀ f ∈ filters, kindOf w = f.kind ↔
        f.validMatch w = true ∧ ∀ g ∈ filters, g.kind.code < f.kind.code → g.validMatch w = false)
    ∧ (multiMatch w = true ↔ ∃ f ∈ filters, ∃ g ∈ filters, f.kind ≠ g.kind ∧ f.validMatch w = true ∧ g.validMatch w = true)

/-- R73: the validity refinement on the fields themselves, for filters 1, 2 and 3 and for no other. -/
def Obligations.ValidityRuleRejectsBadCompareWords : Prop :=
  ∀ w : Word, ∀ f ∈ filters,
    f.validMatch w = true ↔
      f.candidate w = true ∧
      ((f.kind = .aluRegShiftImm ∨ f.kind = .aluRegShiftReg ∨ f.kind = .aluImm) →
        0x8 ≤ w.extractLsb' 21 4 → w.extractLsb' 21 4 ≤ 0xB →
        w.extractLsb' 20 1 = 1 ∧ (w.extractLsb' 12 4 = 0 ∨ w.extractLsb' 12 4 = 15))

/-! ## Rendering -/

/-- R118: the branch target law, `(address + 8 + 4 * soff) mod 2^32` with `soff` the signed offset, and the source's two
instances; the low two bits of the address are kept. -/
def Obligations.BranchTargetIsAddressPlusEightPlusFourTimesTheSignedOffset : Prop :=
  (∀ (a : Word) (off : BitVec 24),
    ((branchTarget a off).toNat : Int) = ((a.toNat : Int) + 8 + 4 * off.toInt) % 2 ^ 32
    ∧ (branchTarget a off).toNat % 4 = a.toNat % 4)
  ∧ branchTarget 0 0x000001 = 12 ∧ ∀ a, branchTarget a 0xFFFFFF = a + 8 - 4

/-- R111: the layout of a rendered line, and the digits of `hex8`. -/
def Obligations.RenderedLineHasTheSpecLayout : Prop :=
  (∀ (p : Config.Params) (o : Config.FormatOptions) (a w : Word) (c : Classification) (r : Rendered),
    render o a w c = .ok r →
      r.text p = (if o.showAddress then hex8 a ++ " : " else "") ++ (if o.showOpcode then hex8 w ++ " | " else "")
        ++ (mnemonicText p r.mnemonic ++ operandText p r.operand))
  ∧ ∀ v : Word, (hex8 v).toList.length = 8 ∧ ∀ k, k < 8 →
      (hex8 v).toList[k]? = "0123456789ABCDEF".toList[(v.toNat / 16 ^ (7 - k)) % 16]?

/-- R123: rendering fails on the hole of the multiply table and nowhere else, with `UnknownMnemonic`; without the address
prefix only type 16 makes the line depend on the address. -/
def Obligations.RenderFailsOnTheMultiplyHoleOnly : Prop :=
  ∀ (o : Config.FormatOptions) (a w : Word),
    (isMultiplyHole w → render o a w (classify w) = .error (.unknownMnemonic .multiply 3))
    ∧ (¬ isMultiplyHole w → ∃ r, render o a w (classify w) = .ok r)
    ∧ (∀ b, o.showAddress = false → kindOf w ≠ .branch →
        render o a w (classify w) = render o b w (classify w))

/-- R124: the defaults of the five text parameters, `TXT_PLACEHOLDER` for each of its thirteen types. -/
def Obligations.TextParametersHaveTheSpecDefaults : Prop :=
  ({} : Config.Params).txtAluOperands = " ..." ∧ ({} : Config.Params).txtUnknown = "???"
  ∧ ({} : Config.Params).regPrefix = "R" ∧ ({} : Config.Params).labelPrefix = ""
  ∧ [Kind.psrImm, .psrReg, .swap, .halfwordReg, .halfwordImm, .transferReg, .transferImm, .undefined, .blockTransfer,
      .coprocDataTransfer, .coprocDataOp, .coprocRegTransfer, .softwareInterrupt].map (placeholderText {})
    = ["[PSR_IMM]", "[PSR_REG]", "[SWAP]", "[HALFWORD_REG]", "[HALFWORD_IMM]", "[TRANSFER_REG]", "[TRANSFER_IMM]",
      "[UNDEFINED]", "[BLOCK_TRANSFER]", "[COPROC_DATA_TRANSFER]", "[COPROC_DATA_OP]", "[COPROC_REG_TRANSFER]",
      "[SOFTWARE_INTERRUPT]"]

/-! ## What the instructions do: each is decoded and rendered, and nothing else changes -/

/-- R80, R112, R115: every row of `ALU_REG_SHIFT_IMM`, completed with its type, its fields and its mnemonic followed by the
placeholder for operands. -/
def Obligations.AluRegShiftImmInstructionsAreDecodedAndRendered : Prop :=
  ∀ (s : State) (I : DecodedInstruction), s.slotD = some I → Unambiguous s I →
    (∀ o : AluRegShiftImmOperands,
      let alu := fun (op : BitVec 4) (n : AluName) (t : String) => Host.Outcome.next (decodedState s I (.aluRegShiftImm
        { cond := o.cond, op := op, s := o.s, rn := o.rn, rd := o.rd, shiftAmount := o.shiftAmount, shiftType := o.shiftType, rm := o.rm })
        (.alu n) .unrendered (t ++ s.params.txtAluOperands))
      exec (.andRegShiftImm o) s = alu 0 .and "AND"
      ∧ exec (.eorRegShiftImm o) s = alu 1 .eor "EOR"
      ∧ exec (.subRegShiftImm o) s = alu 2 .sub "SUB"
      ∧ exec (.rsbRegShiftImm o) s = alu 3 .rsb "RSB"
      ∧ exec (.addRegShiftImm o) s = alu 4 .add "ADD"
      ∧ exec (.adcRegShiftImm o) s = alu 5 .adc "ADC"
      ∧ exec (.sbcRegShiftImm o) s = alu 6 .sbc "SBC"
      ∧ exec (.rscRegShiftImm o) s = alu 7 .rsc "RSC"
      ∧ exec (.orrRegShiftImm o) s = alu 12 .orr "ORR"
      ∧ exec (.movRegShiftImm o) s = alu 13 .mov "MOV"
      ∧ exec (.bicRegShiftImm o) s = alu 14 .bic "BIC"
      ∧ exec (.mvnRegShiftImm o) s = alu 15 .mvn "MVN")
    ∧ (∀ o : CmpRegShiftImmOperands,
      let cmp := fun (op rd : BitVec 4) (n : AluName) (t : String) => Host.Outcome.next (decodedState s I (.aluRegShiftImm
        { cond := o.cond, op := op, s := 1, rn := o.rn, rd := rd, shiftAmount := o.shiftAmount, shiftType := o.shiftType, rm := o.rm })
        (.alu n) .unrendered (t ++ s.params.txtAluOperands))
      exec (.tstRegShiftImmRd0 o) s = cmp 8 0 .tst "TST"
      ∧ exec (.tstRegShiftImmRd15 o) s = cmp 8 15 .tst "TST"
      ∧ exec (.teqRegShiftImmRd0 o) s = cmp 9 0 .teq "TEQ"
      ∧ exec (.teqRegShiftImmRd15 o) s = cmp 9 15 .teq "TEQ"
      ∧ exec (.cmpRegShiftImmRd0 o) s = cmp 10 0 .cmp "CMP"
      ∧ exec (.cmpRegShiftImmRd15 o) s = cmp 10 15 .cmp "CMP"
      ∧ exec (.cmnRegShiftImmRd0 o) s = cmp 11 0 .cmn "CMN"
      ∧ exec (.cmnRegShiftImmRd15 o) s = cmp 11 15 .cmn "CMN")

/-- R81, R112, R115: every row of `ALU_REG_SHIFT_REG`, completed with its type, its fields and its mnemonic followed by the
placeholder for operands. -/
def Obligations.AluRegShiftRegInstructionsAreDecodedAndRendered : Prop :=
  ∀ (s : State) (I : DecodedInstruction), s.slotD = some I → Unambiguous s I →
    (∀ o : AluRegShiftRegOperands,
      let alu := fun (op : BitVec 4) (n : AluName) (t : String) => Host.Outcome.next (decodedState s I (.aluRegShiftReg
        { cond := o.cond, op := op, s := o.s, rn := o.rn, rd := o.rd, rs := o.rs, shiftType := o.shiftType, rm := o.rm })
        (.alu n) .unrendered (t ++ s.params.txtAluOperands))
      exec (.andRegShiftReg o) s = alu 0 .and "AND"
      ∧ exec (.eorRegShiftReg o) s = alu 1 .eor "EOR"
      ∧ exec (.subRegShiftReg o) s = alu 2 .sub "SUB"
      ∧ exec (.rsbRegShiftReg o) s = alu 3 .rsb "RSB"
      ∧ exec (.addRegShiftReg o) s = alu 4 .add "ADD"
      ∧ exec (.adcRegShiftReg o) s = alu 5 .adc "ADC"
      ∧ exec (.sbcRegShiftReg o) s = alu 6 .sbc "SBC"
      ∧ exec (.rscRegShiftReg o) s = alu 7 .rsc "RSC"
      ∧ exec (.orrRegShiftReg o) s = alu 12 .orr "ORR"
      ∧ exec (.movRegShiftReg o) s = alu 13 .mov "MOV"
      ∧ exec (.bicRegShiftReg o) s = alu 14 .bic "BIC"
      ∧ exec (.mvnRegShiftReg o) s = alu 15 .mvn "MVN")
    ∧ (∀ o : CmpRegShiftRegOperands,
      let cmp := fun (op rd : BitVec 4) (n : AluName) (t : String) => Host.Outcome.next (decodedState s I (.aluRegShiftReg
        { cond := o.cond, op := op, s := 1, rn := o.rn, rd := rd, rs := o.rs, shiftType := o.shiftType, rm := o.rm })
        (.alu n) .unrendered (t ++ s.params.txtAluOperands))
      exec (.tstRegShiftRegRd0 o) s = cmp 8 0 .tst "TST"
      ∧ exec (.tstRegShiftRegRd15 o) s = cmp 8 15 .tst "TST"
      ∧ exec (.teqRegShiftRegRd0 o) s = cmp 9 0 .teq "TEQ"
      ∧ exec (.teqRegShiftRegRd15 o) s = cmp 9 15 .teq "TEQ"
      ∧ exec (.cmpRegShiftRegRd0 o) s = cmp 10 0 .cmp "CMP"
      ∧ exec (.cmpRegShiftRegRd15 o) s = cmp 10 15 .cmp "CMP"
      ∧ exec (.cmnRegShiftRegRd0 o) s = cmp 11 0 .cmn "CMN"
      ∧ exec (.cmnRegShiftRegRd15 o) s = cmp 11 15 .cmn "CMN")

/-- R82, R112, R115: every row of `ALU_IMM`, completed with its type, its fields and its mnemonic followed by the
placeholder for operands. -/
def Obligations.AluImmInstructionsAreDecodedAndRendered : Prop :=
  ∀ (s : State) (I : DecodedInstruction), s.slotD = some I → Unambiguous s I →
    (∀ o : AluImmOperands,
      let alu := fun (op : BitVec 4) (n : AluName) (t : String) => Host.Outcome.next (decodedState s I (.aluImm
        { cond := o.cond, op := op, s := o.s, rn := o.rn, rd := o.rd, rotate := o.rotate, imm := o.imm })
        (.alu n) .unrendered (t ++ s.params.txtAluOperands))
      exec (.andImm o) s = alu 0 .and "AND"
      ∧ exec (.eorImm o) s = alu 1 .eor "EOR"
      ∧ exec (.subImm o) s = alu 2 .sub "SUB"
      ∧ exec (.rsbImm o) s = alu 3 .rsb "RSB"
      ∧ exec (.addImm o) s = alu 4 .add "ADD"
      ∧ exec (.adcImm o) s = alu 5 .adc "ADC"
      ∧ exec (.sbcImm o) s = alu 6 .sbc "SBC"
      ∧ exec (.rscImm o) s = alu 7 .rsc "RSC"
      ∧ exec (.orrImm o) s = alu 12 .orr "ORR"
      ∧ exec (.movImm o) s = alu 13 .mov "MOV"
      ∧ exec (.bicImm o) s = alu 14 .bic "BIC"
      ∧ exec (.mvnImm o) s = alu 15 .mvn "MVN")
    ∧ (∀ o : CmpImmOperands,
      let cmp := fun (op rd : BitVec 4) (n : AluName) (t : String) => Host.Outcome.next (decodedState s I (.aluImm
        { cond := o.cond, op := op, s := 1, rn := o.rn, rd := rd, rotate := o.rotate, imm := o.imm })
        (.alu n) .unrendered (t ++ s.params.txtAluOperands))
      exec (.tstImmRd0 o) s = cmp 8 0 .tst "TST"
      ∧ exec (.tstImmRd15 o) s = cmp 8 15 .tst "TST"
      ∧ exec (.teqImmRd0 o) s = cmp 9 0 .teq "TEQ"
      ∧ exec (.teqImmRd15 o) s = cmp 9 15 .teq "TEQ"
      ∧ exec (.cmpImmRd0 o) s = cmp 10 0 .cmp "CMP"
      ∧ exec (.cmpImmRd15 o) s = cmp 10 15 .cmp "CMP"
      ∧ exec (.cmnImmRd0 o) s = cmp 11 0 .cmn "CMN"
      ∧ exec (.cmnImmRd15 o) s = cmp 11 15 .cmn "CMN")

/-- R85, R100, R116, R118, R119, R191: the branches are decoded and rendered with the register name or the target as a
label; the pc and the link register are not written (the whole next state is given). -/
def Obligations.BranchesAreDecodedAndRedirectNothing : Prop :=
  ∀ (s : State) (I : DecodedInstruction), s.slotD = some I → Unambiguous s I →
    (∀ o : BranchExchangeOperands,
      exec (.bx o) s = .next (decodedState s I (.branchExchange { cond := o.cond, l := 0, rn := o.rn }) .bx (.reg o.rn)
        ("BX " ++ (s.params.regPrefix ++ toString o.rn.toNat)))
      ∧ exec (.blx o) s = .next (decodedState s I (.branchExchange { cond := o.cond, l := 1, rn := o.rn }) .blx
        (.reg o.rn) ("BLX " ++ (s.params.regPrefix ++ toString o.rn.toNat))))
    ∧ ∀ o : BranchOperands,
      let target := I.address + 8 + 4 * o.offset.signExtend 32
      let suffix := ["EQ", "NE", "HS", "LO", "MI", "PL", "VS", "VC", "HI", "LS", "GE", "LT", "GT", "LE", "", "NV"].getD
        o.cond.toNat ""
      exec (.b o) s = .next (decodedState s I (.branch { cond := o.cond, l := 0, offset := o.offset })
        (.b (condName o.cond)) (.label target) ("B" ++ suffix ++ " " ++ (s.params.labelPrefix ++ hex8 target)))
      ∧ exec (.bl o) s = .next (decodedState s I (.branch { cond := o.cond, l := 1, offset := o.offset })
        (.bl (condName o.cond)) (.label target) ("BL" ++ suffix ++ " " ++ (s.params.labelPrefix ++ hex8 target)))

/-- R90, R91, R113, R117: the multiplies are decoded and rendered with the mnemonic alone. -/
def Obligations.MultipliesAreDecodedAndRendered : Prop :=
  ∀ (s : State) (I : DecodedInstruction), s.slotD = some I → Unambiguous s I →
    (∀ o : MultiplyOperands,
      let short := fun (op : BitVec 3) (n : MulName) (t : String) => Host.Outcome.next (decodedState s I (.multiply
        { cond := o.cond, op := op, s := o.s, rd := o.rd, rn := o.rn, rs := o.rs, rm := o.rm }) (.mul n) .none t)
      exec (.mul o) s = short 0 .mul "MUL"
      ∧ exec (.mla o) s = short 1 .mla "MLA"
      ∧ exec (.umaal o) s = short 2 .umaal "UMAAL")
    ∧ ∀ o : MultiplyLongOperands,
      let long := fun (op : BitVec 3) (n : MulName) (t : String) => Host.Outcome.next (decodedState s I (.multiplyLong
        { cond := o.cond, op := op, s := o.s, rdHi := o.rdHi, rdLo := o.rdLo, rs := o.rs, rm := o.rm }) (.mul n) .none t)
      exec (.umull o) s = long 4 .umull "UMULL"
      ∧ exec (.umlal o) s = long 5 .umlal "UMLAL"
      ∧ exec (.smull o) s = long 6 .smull "SMULL"
      ∧ exec (.smlal o) s = long 7 .smlal "SMLAL"

/-- R113, R117, R157, R164: the unassigned multiply code 3 is classified as type 7 and its rendering latches
`UnknownMnemonic`; slot D keeps the instruction as it was (log entry 11) and nothing is rendered. -/
def Obligations.UnassignedMultiplyCodeLatchesUnknownMnemonic : Prop :=
  ∀ (s : State) (I : DecodedInstruction) (o : MultiplyOperands), s.slotD = some I → Unambiguous s I →
    exec (.mulOp3Unassigned o) s = .next
      { s with
        fault := some (.unknownMnemonic .multiply 3)
        out := { s.out with dec := some {
          result := .decoded (.multiply
            { cond := o.cond, op := 3, s := o.s, rd := o.rd, rn := o.rn, rs := o.rs, rm := o.rm })
          matchVec := matchVec I.opcode
          multiMatch := multiMatch I.opcode } } }

/-- R192, R120, R124, R64: the load and store formats are decoded and rendered as placeholders, each the type's name in
brackets unless the parameters give another text; no memory is read or written and no base register changes (the whole
next state is given; log entry 5 says how the placeholder text is held). -/
def Obligations.LoadAndStoreFormatsAreDecodedAndAccessNothing : Prop :=
  ∀ (s : State) (I : DecodedInstruction), s.slotD = some I → Unambiguous s I →
    (∀ f, exec (.swap f) s = .next (placeholderState s I (.swap f) "SWAP"))
    ∧ (∀ f, exec (.halfwordReg f) s = .next (placeholderState s I (.halfwordReg f) "HALFWORD_REG"))
    ∧ (∀ f, exec (.halfwordImm f) s = .next (placeholderState s I (.halfwordImm f) "HALFWORD_IMM"))
    ∧ (∀ f, exec (.transferReg f) s = .next (placeholderState s I (.transferReg f) "TRANSFER_REG"))
    ∧ (∀ f, exec (.transferImm f) s = .next (placeholderState s I (.transferImm f) "TRANSFER_IMM"))
    ∧ (∀ f, exec (.blockTransfer f) s = .next (placeholderState s I (.blockTransfer f) "BLOCK_TRANSFER"))
    ∧ ∀ f, exec (.coprocDataTransfer f) s = .next (placeholderState s I (.coprocDataTransfer f) "COPROC_DATA_TRANSFER")

/-- R193, R120, R124, R64, R171: the system formats are decoded and rendered as placeholders, each the type's name in
brackets unless the parameters give another text; no trap is taken, no status register is read or written, no coprocessor
is reached (the whole next state is given; log entry 5). -/
def Obligations.SystemFormatsAreDecodedAndTakeNoTrap : Prop :=
  ∀ (s : State) (I : DecodedInstruction), s.slotD = some I → Unambiguous s I →
    (∀ f, exec (.softwareInterrupt f) s = .next (placeholderState s I (.softwareInterrupt f) "SOFTWARE_INTERRUPT"))
    ∧ (∀ f, exec (.undefined f) s = .next (placeholderState s I (.undefined f) "UNDEFINED"))
    ∧ (∀ f, exec (.psrImm f) s = .next (placeholderState s I (.psrImm f) "PSR_IMM"))
    ∧ (∀ f, exec (.psrReg f) s = .next (placeholderState s I (.psrReg f) "PSR_REG"))
    ∧ (∀ f, exec (.coprocDataTransfer f) s = .next (placeholderState s I (.coprocDataTransfer f) "COPROC_DATA_TRANSFER"))
    ∧ (∀ f, exec (.coprocDataOp f) s = .next (placeholderState s I (.coprocDataOp f) "COPROC_DATA_OP"))
    ∧ ∀ f, exec (.coprocRegTransfer f) s = .next (placeholderState s I (.coprocRegTransfer f) "COPROC_REG_TRANSFER")

/-- R76, R105, R121: an UNKNOWN word is never ambiguous, and it goes through the decode stage like any other, with the
empty field map and the marker; nothing but slot D and the ports changes. -/
def Obligations.UnknownWordIsDecodedAndRenderedAsTheMarker : Prop :=
  (∀ w, kindOf w = .unknown → classify w = .unknown ∧ (classify w).fieldMap = [] ∧ multiMatch w = false)
  ∧ ∀ (s : State) (I : DecodedInstruction), s.slotD = some I → Unambiguous s I →
    decodeUnknown s = .next
      { s with
        slotD := some { I with decoded := some .unknown }
        out := { s.out with
          dec := some { result := .unknown, matchVec := matchVec I.opcode, multiMatch := multiMatch I.opcode }
          decoded := some ⟨{ I with decoded := some .unknown },
            ⟨if s.options.showAddress then some I.address else none,
              if s.options.showOpcode then some I.opcode else none, .unknownMarker, .none⟩,
            (if s.options.showAddress then hex8 I.address ++ " : " else "")
              ++ (if s.options.showOpcode then hex8 I.opcode ++ " | " else "") ++ s.params.txtUnknown⟩ } }

/-- R77, R163, R172: under `AMBIGUITY_FATAL` an instruction whose word has more than one valid match latches
`DecodeAmbiguity`, whatever it would render as; no type and no fields are produced. -/
def Obligations.AmbiguousWordLatchesDecodeAmbiguityUnderThePolicy : Prop :=
  ∀ (i : Instr) (s : State) (I : DecodedInstruction), s.slotD = some I → s.params.ambiguityFatal = true →
    multiMatch I.opcode = true →
    exec i s = .next
      { s with
        fault := some (.decodeAmbiguity I.opcode (matchVec I.opcode))
        out := { s.out with dec := some {
          result := .ambiguous (matchVec I.opcode), matchVec := matchVec I.opcode, multiMatch := true } } }

/-- R153, R190 to R193: the frame of every instruction. Every instruction completes, and no register, bank, status
register, pc, byte of memory, other slot, parameter or request is changed by it; the latch holds what it held, or one of
the two decode errors. -/
def Obligations.EveryInstructionCompletesAndChangesNoArchitecturalState : Prop :=
  ∀ (i : Instr) (s : State), ∃ t, exec i s = .next t
    ∧ (∀ r, t.readReg r = s.readReg r) ∧ t.pc = s.pc ∧ t.bank = s.bank ∧ t.psr = s.psr
    ∧ (∀ a, byteAt t.mem a = byteAt s.mem a) ∧ t.slotF = s.slotF ∧ t.slotX = s.slotX
    ∧ t.slotD.map (fun I => (I.address, I.opcode)) = s.slotD.map (fun I => (I.address, I.opcode))
    ∧ t.params = s.params ∧ t.options = s.options ∧ t.requests = s.requests ∧ t.draws = s.draws
    ∧ (t.fault = s.fault ∨ t.fault = some (.unknownMnemonic .multiply 3)
        ∨ ∃ I, s.slotD = some I ∧ t.fault = some (.decodeAmbiguity I.opcode (matchVec I.opcode)))

/-! ## The cycle -/

/-- R151, R152: a step runs the instruction in slot F, the word the cycle before fetched: it shifts and fetches, decodes
and renders that instruction, and executes and releases. With an UNKNOWN word or an empty slot the same holds. -/
def Obligations.StepRunsTheInstructionFetchedBefore : Prop :=
  ∀ (s : State) (w : Word), Ready s → read32 s.mem s.pc = .ok w →
    (∀ I i, s.slotF = some I → decodeWord I.opcode = some i →
      step s = finishCycle (exec i (s.clearOut.shiftIn w)))
    ∧ (∀ I, s.slotF = some I → decodeWord I.opcode = none →
      step s = finishCycle (decodeUnknown (s.clearOut.shiftIn w)))
    ∧ (s.slotF = none → step s = .next (executeAndRelease (s.clearOut.shiftIn w)))

/-- R48, R151, R154: when the bytes at the pc are the word of an instruction, the next cycle fetches it and the cycle after
that runs it. -/
def Obligations.InstructionAtThePcRunsInTheCycleAfterItsFetch : Prop :=
  ∀ (s t : State) (w w' : Word) (i : Instr), Ready s → read32 s.mem s.pc = .ok w → decodeWord w = some i →
    step s = .next t → t.fault = none → read32 t.mem t.pc = .ok w' →
    t.slotF = some { address := s.pc, opcode := w, decoded := none } ∧ t.pc = s.pc + 4
    ∧ step t = finishCycle (exec i (t.clearOut.shiftIn w'))

/-- The probe of the host: from every state with a canonical memory, a word placed with `withFetchWord` is decoded and
rendered by the very next step (log entry 10). -/
def Obligations.PlacedWordRunsInTheVeryNextStep : Prop :=
  ∀ (s : State) (w : Word) (i : Instr), s.mem.wf → decodeWord w = some i →
    ∃ w' t, t = s.withFetchWord 32 w.toNat ∧ read32 t.mem (t.pc - 4) = .ok w ∧ read32 t.mem t.pc = .ok w'
      ∧ step t = finishCycle (exec i (t.clearOut.shiftIn w'))

/-- R152, R70, R77: the decode sub-step drives DEC's ports with what DEC makes of the word in slot F; if the word decodes
cleanly its type and fields go to slot D and the port `decoded` carries it with its line of text; else an error is latched
and nothing is rendered. With slot F empty nothing is decoded. -/
def Obligations.CycleDecodesAndRendersTheWordInSlotF : Prop :=
  ∀ (s : State) (w : Word), Ready s → read32 s.mem s.pc = .ok w →
    (∀ I, s.slotF = some I →
      ∃ t, step s = .next t
        ∧ t.out.dec = some (dec s.params.ambiguityFatal I.opcode)
        ∧ (DecodesCleanly s.params I.opcode →
            t.fault = none ∧ t.slotD = some { I with decoded := some (classify I.opcode) }
            ∧ ∃ r, render s.options I.address I.opcode (classify I.opcode) = .ok r
              ∧ t.out.decoded = some ⟨{ I with decoded := some (classify I.opcode) }, r, r.text s.params⟩)
        ∧ (¬ DecodesCleanly s.params I.opcode → t.fault.isSome ∧ t.out.decoded = none))
    ∧ (s.slotF = none → ∃ t, step s = .next t ∧ t.fault = none ∧ t.slotD = none ∧ t.out.dec = none ∧ t.out.decoded = none)

/-- R151: a cycle whose fetch succeeds puts the word at the pc, with the pc's old value as its address, into slot F, shifts
and advances the pc by 4, whether or not its decode sub-step fails. While slot X is occupied nothing is shifted or
fetched (no run reaches that with the latch clear; log entry 25). -/
def Obligations.SuccessfulFetchShiftsAndAdvancesThePc : Prop :=
  (∀ (s : State) (w : Word), Ready s → read32 s.mem s.pc = .ok w →
    ∃ t, step s = .next t ∧ t.slotF = some { address := s.pc, opcode := w, decoded := none } ∧ t.pc = s.pc + 4
      ∧ t.out.fetched = some (s.pc, w)
      ∧ t.slotD.map (fun I => (I.address, I.opcode)) = s.slotF.map (fun I => (I.address, I.opcode))
      ∧ ((t.fault = none ∧ t.out.executed = s.slotD ∧ t.slotX = none) ∨ (t.fault.isSome ∧ t.slotX = s.slotD)))
  ∧ ∀ (s : State), s.requests = [] → s.fault = none → s.slotX.isSome →
    ∃ t, step s = .next t ∧ t.pc = s.pc ∧ t.out.fetched = none ∧ t.slotF = s.slotF
      ∧ t.slotD.map (fun I => (I.address, I.opcode)) = s.slotD.map (fun I => (I.address, I.opcode))

/-- R156: a fetch error ends the cycle at once; the latch holds the error and the slots, the pc, the registers and the
buffers are as before; PIPE has no step from then on. With the pipeline invariant it happens only at the end of BIOS, as `OUT_OF_ZONE(0x4000)`. -/
def Obligations.FetchErrorLatchesAndChangesNothingElse : Prop :=
  ∀ (s : State) (e : Error), Ready s → read32 s.mem s.pc = .error e →
    step s = .next { s with fault := some e, out := {} }
    ∧ step { s with fault := some e, out := {} } = .fault (.latched e)
    ∧ (PipeInv s → s.pc = 0x4000 ∧ e = .invalidMemoryAccess .outOfZone 0x4000)

/-- R157, R172: a decode fault leaves this cycle's shift and fetch done, the offending instruction in D, and X unreleased;
the error is `DecodeAmbiguity` if the policy and the word give one, else `UnknownMnemonic`; PIPE has no step from then
on. -/
def Obligations.DecodeFaultKeepsTheShiftAndLeavesXOccupied : Prop :=
  ∀ (s : State) (w : Word) (I : DecodedInstruction), Ready s → read32 s.mem s.pc = .ok w → s.slotF = some I →
    ¬ DecodesCleanly s.params I.opcode →
    ∃ t, step s = .next t
      ∧ t.fault = some (if s.params.ambiguityFatal = true ∧ multiMatch I.opcode = true
          then .decodeAmbiguity I.opcode (matchVec I.opcode) else .unknownMnemonic .multiply 3)
      ∧ t.slotF = some { address := s.pc, opcode := w, decoded := none }
      ∧ t.slotD.map (fun I => (I.address, I.opcode)) = some (I.address, I.opcode) ∧ t.slotX = s.slotD
      ∧ t.out.executed = none ∧ (∃ e, step t = .fault (.latched e)) ∧ t.pc = s.pc + 4
      ∧ (∀ a, byteAt t.mem a = byteAt s.mem a)
      ∧ (∀ r, r ≠ 15 → t.readReg r = s.readReg r) ∧ t.bank = s.bank ∧ t.psr = s.psr

/-- R153: no cycle, whatever the words in the slots, writes a register but the pc, a bank, a status register or a byte of
memory; the pc advances by 4 or, when nothing is fetched, stays; slots F and D are as the shift leaves them; and a cycle
that latches no error hands the instruction of slot X to the port `executed` and empties the slot. -/
def Obligations.NoCycleExecutesAnything : Prop :=
  ∀ s t : State, (s.requests = [] ∨ ∃ o rest, s.requests = .cycle o :: rest) → step s = .next t →
    (∀ r, r ≠ 15 → t.readReg r = s.readReg r) ∧ t.bank = s.bank ∧ t.psr = s.psr ∧ t.mem = s.mem
    ∧ t.params = s.params ∧ t.draws = s.draws
    ∧ ((∃ w, t.out.fetched = some (s.pc, w) ∧ t.pc = s.pc + 4 ∧ t.slotF = some { address := s.pc, opcode := w, decoded := none }
          ∧ t.slotD.map (fun I => (I.address, I.opcode)) = s.slotF.map (fun I => (I.address, I.opcode)))
        ∨ (t.out.fetched = none ∧ t.pc = s.pc ∧ t.slotF = s.slotF
          ∧ t.slotD.map (fun I => (I.address, I.opcode)) = s.slotD.map (fun I => (I.address, I.opcode))))
    ∧ (t.fault = none → t.slotX = none ∧ t.out.executed = if s.slotX.isSome then s.slotX else s.slotD)

/-- R150, R19: a cycle the host asks for is a cycle under the options supplied with it; so every statement about an
unasked cycle is one about a requested cycle too (log entries 6 and 7). -/
def Obligations.RequestedCycleIsACycleUnderItsOptions : Prop :=
  ∀ (s : State) (o : Config.FormatOptions) (rest : List Request), s.requests = .cycle o :: rest →
    (∀ t, step { s with requests := [], options := o } = .next t → step s = .next { t with requests := rest })
    ∧ ∀ f, step { s with requests := [], options := o } = .fault f → step s = .fault f

/-- R20, R150, R180: while the latch is set PIPE has no step (a fault of the model, log entry 12), and no step but a reset
by the host clears it; a host command neither sets nor clears it. -/
def Obligations.OnlyResetClearsTheFaultLatch : Prop :=
  (∀ (s : State) (e : Error), s.fault = some e → (s.requests = [] ∨ ∃ o rest, s.requests = .cycle o :: rest) →
    step s = .fault (.latched e))
  ∧ (∀ (s t : State) (e : Error), s.fault = some e → step s = .next t → t.fault = some e
      ∨ ∃ rest, s.requests = .reset :: rest)
  ∧ ∀ (s t : State) (c : Command) (rest : List Request), s.requests = .command c :: rest → step s = .next t →
      t.fault = s.fault

/-- Serving the reading command `c` answers what the function of R131 to R133 answers, a value or an error, and changes no
memory. -/
def ServedRead {α : Type} (m : Memory) (c : Command) (value : α → Reply) (r : Except Error α) : Prop :=
  (∀ v, r = .ok v → serveCommand m c = (m, value v)) ∧ ∀ e, r = .error e → serveCommand m c = (m, .failed e)

/-- Serving the storing command `c` leaves the memory that the function of R134 to R136, R138 or R139 gives and answers
success, or changes no memory and answers the function's error. -/
def ServedWrite (m : Memory) (c : Command) (r : Except Error Memory) : Prop :=
  (∀ m', r = .ok m' → serveCommand m c = (m', .done)) ∧ ∀ e, r = .error e → serveCommand m c = (m, .failed e)

/-- R142, R42, R183: a host command is served whether or not the latch is set and touches no slot, no register and not the
latch; so the words in F and D stay the old ones. R130: each of the nine commands is served by its own function of R131 to
R139, with the arguments of the request, its value or success or its one error as the reply, and the error is one of the
two that R130 names. A read, a dump and a command that fails change no memory. -/
def Obligations.HostCommandTouchesMemoryAndReplyOnly : Prop :=
  (∀ (s : State) (c : Command) (rest : List Request), s.requests = .command c :: rest →
    step s = .next
      { s with requests := rest, mem := (serveCommand s.mem c).1, out := { reply := some (serveCommand s.mem c).2 } }
    ∧ ((∃ a, c = .read8 a ∨ c = .read16 a ∨ c = .read32 a) ∨ (∃ z, c = .dumpZone z) → (serveCommand s.mem c).1 = s.mem))
  ∧ ∀ m : Memory,
    (∀ a, ServedRead m (.read8 a) .byte (read8 m a))
    ∧ (∀ a, ServedRead m (.read16 a) .half (read16 m a))
    ∧ (∀ a, ServedRead m (.read32 a) .word (read32 m a))
    ∧ (∀ a v, ServedWrite m (.write8 a v) (write8 m a v))
    ∧ (∀ a data, ServedWrite m (.writeBlock a data) (writeBlock m a data))
    ∧ (∀ a1 a2 p, ServedWrite m (.fill a1 a2 p) (fill m a1 a2 p))
    ∧ (∀ z, serveCommand m (.dumpZone z) = (m, .bytes (dumpZone m z)))
    ∧ (∀ image, ServedWrite m (.loadBios image) (loadBios m image))
    ∧ (∀ image, ServedWrite m (.loadRom image) (loadRom m image))
    ∧ ∀ c e, (serveCommand m c).2 = .failed e →
        (∃ cause a, e = .invalidMemoryAccess cause a) ∨ ∃ b len capacity, e = .loadingError b len capacity

/-- R48, R183: a word the host writes at the pc is what the next cycle fetches, with no fence; the words already in slots F
and D stay the old ones. -/
def Obligations.HostWriteIsSeenByTheNextFetchOnly : Prop :=
  ∀ (s : State) (w : Word), s.mem.wf → s.requests = [.command (.writeBlock s.pc (bytesOfWord w))] → s.fault = none →
    s.slotX = none → s.pc.toNat + 4 ≤ 0x4000 →
    ∃ t u, step s = .next t ∧ t.slotF = s.slotF ∧ t.slotD = s.slotD ∧ t.pc = s.pc ∧ t.out.reply = some .done
      ∧ step t = .next u ∧ u.slotF = some { address := s.pc, opcode := w, decoded := none }
      ∧ u.slotD.map (fun I => (I.address, I.opcode)) = s.slotF.map (fun I => (I.address, I.opcode))

/-- R180: a reset by the host puts registers, banks, status registers, slots and latch at the values of R21 and fetches
nothing, whatever the state before; the first cycle after it fetches at address 0; nothing else clears the latch. The
buffers have a statement of their own, `EveryByteIsFreeUntilALoadOrAWriteGivesIt`. -/
def Obligations.HostResetGivesTheResetValues : Prop :=
  (∀ (s : State) (rest : List Request), s.requests = .reset :: rest →
    ∃ t, step s = .next t ∧ (∀ r, t.readReg r = 0) ∧ t.pc = 0 ∧ t.bank = State.reset.bank ∧ t.psr = State.reset.psr
      ∧ t.slotF = none ∧ t.slotD = none ∧ t.slotX = none ∧ t.fault = none ∧ t.out.fetched = none
      ∧ (rest = [] → ∃ u, step t = .next u ∧ u.out.fetched = some (0, wordAt t.mem 0)))
  ∧ ∀ s t : State, s.fault.isSome → step s = .next t → t.fault = none → ∃ rest, s.requests = .reset :: rest

/-- R21: the values of the state after reset. -/
def Obligations.StateAfterResetIsAsTheSpecSays : Prop :=
  (∀ r, State.reset.readReg r = 0) ∧ State.reset.pc = 0
  ∧ (∀ k : Fin 7, State.reset.bank.fiq[k] = 0)
  ∧ (∀ k : Fin 2, State.reset.bank.svc[k] = 0 ∧ State.reset.bank.abt[k] = 0 ∧ State.reset.bank.irq[k] = 0
      ∧ State.reset.bank.und[k] = 0)
  ∧ State.reset.psr = { cpsr := 0, spsrFiq := 0, spsrSvc := 0, spsrAbt := 0, spsrIrq := 0, spsrUnd := 0 }
  ∧ State.reset.slotF = none ∧ State.reset.slotD = none ∧ State.reset.slotX = none ∧ State.reset.fault = none

/-! ## Invariants -/

/-- R155, R12: what holds between operations holds after every step. -/
def Obligations.EveryStepKeepsThePipelineInvariant : Prop :=
  ∀ s t : State, PipeInv s → step s = .next t → PipeInv t

/-- R155, R21, R11: the three invariants hold after reset. -/
def Obligations.InvariantsHoldAfterReset : Prop :=
  PipeInv State.reset ∧ InertZero State.reset ∧ State.reset.mem.wf

/-- R11, R13, R14: the registers no rule writes stay zero. -/
def Obligations.EveryStepKeepsTheInertRegistersZero : Prop :=
  ∀ s t : State, InertZero s → step s = .next t → InertZero t

/-- The memory keeps its canonical form under every step, whatever the host asks for. -/
def Obligations.EveryStepKeepsTheMemoryCanonical : Prop :=
  ∀ s t : State, s.mem.wf → step s = .next t → t.mem.wf

/-- R154: the schedule. From any state with the pipeline as after reset, over any memory and parameters, as long as the
words decode cleanly: after cycle k the pc is 4k, F holds the word at 4(k-1) undecoded, D the one at 4(k-2) decoded, X is
empty, and cycle k rendered the one at 4(k-2) and executed the one at 4(k-3). -/
def Obligations.ScheduleAfterReset : Prop :=
  ∀ (s : State) (k : Nat), Ready s → s.pc = 0 → s.slotF = none → s.slotD = none → 1 ≤ k → k ≤ 4096 →
    (∀ j, j + 1 < k → DecodesCleanly s.params (wordAt s.mem (4 * j))) →
    ∃ t, Host.Core.run core k s = .next t ∧ t.pc = BitVec.ofNat 32 (4 * k) ∧ t.fault = none ∧ t.slotX = none
      ∧ t.mem = s.mem ∧ t.out.fetched = some (BitVec.ofNat 32 (4 * (k - 1)), wordAt s.mem (4 * (k - 1)))
      ∧ t.slotF = some ⟨BitVec.ofNat 32 (4 * (k - 1)), wordAt s.mem (4 * (k - 1)), none⟩
      ∧ t.slotD = (if 2 ≤ k then some ⟨BitVec.ofNat 32 (4 * (k - 2)), wordAt s.mem (4 * (k - 2)),
          some (classify (wordAt s.mem (4 * (k - 2))))⟩ else none)
      ∧ t.out.decoded.map (·.instruction) = t.slotD
      ∧ t.out.executed = (if 3 ≤ k then some ⟨BitVec.ofNat 32 (4 * (k - 3)), wordAt s.mem (4 * (k - 3)),
          some (classify (wordAt s.mem (4 * (k - 3))))⟩ else none)

/-! ## Isolation -/

/-- R11, R79, R153: no step reads x[0] to x[14], a bank or a status register: states that differ there only step alike and
differ there only afterwards. -/
def Obligations.NoStepReadsTheInertRegisters : Prop :=
  ∀ s t : State, SameButInert s t →
    (∀ s', step s = .next s' → ∃ t', step t = .next t' ∧ SameButInert s' t')
    ∧ (∀ f, step s = .fault f → step t = .fault f) ∧ (∀ r, step s = .refused r → step t = .refused r)

/-! ## Memory -/

/-- R35, R50: an address is valid exactly if it lies in one of the zones; otherwise the bus-width check comes first. -/
def Obligations.SingleAddressValidationFollowsTheZoneTable : Prop :=
  ∀ a : Nat,
    (0x10000000 ≤ a → singleCheck a = some (.invalidMemoryAccess .busWidth a))
    ∧ (a < 0x10000000 → ¬ validAddress a → singleCheck a = some (.invalidMemoryAccess .outOfZone a))
    ∧ (validAddress a → singleCheck a = none)

/-- R34: the three windows locate the same bytes of the ROM buffer, no other two valid addresses locate the same byte, and
a byte written through one address is read through every address of the same byte. -/
def Obligations.RomWindowsAreMirrorsAndNothingElseAliases : Prop :=
  (∀ o, o < 0x1000000 → ∀ k, k < 3 →
    locate (0x08000000 + k * 0x2000000 + o) = some (.rom, o)
    ∧ locate (0x09000000 + k * 0x2000000 + o) = some (.rom, 0x1000000 + o))
  ∧ (∀ a b l, locate a = some l → locate b = some l → a ≠ b →
    l.1 = .rom ∧ (a + 0x2000000 = b ∨ a + 0x4000000 = b ∨ b + 0x2000000 = a ∨ b + 0x4000000 = a))
  ∧ ∀ (m m' : Memory) (a b : Word) (v : Byte), m.wf → write8 m a v = .ok m' → locate b.toNat = locate a.toNat →
      read8 m' b = .ok v

/-- R36, R37: which ranges are accepted, with the end equal to base + size and the three pairs of zones among them, and which
error any other range answers, in the order of the checks; every byte of an accepted range is valid and the bytes lie at
consecutive indices of one buffer; a range that ends on the start of an unpaired zone is rejected. -/
def Obligations.AcceptedRangeHoldsValidConsecutiveBytes : Prop :=
  (∀ a1 a2, rangeCheck a1 a2 = none ↔
    a1 < a2 ∧ a2 < 0x10000000 ∧ sameZoneOrPair a1 a2 ∧ offsetWithinZone a1 ∧ offsetWithinZone a2)
  ∧ (∀ a1 a2, a2 ≤ a1 → rangeCheck a1 a2 = some (.invalidMemoryAccess .reversedOrEmptyRange a1))
  ∧ (∀ a1 a2, a1 < a2 →
    (0x10000000 ≤ a1 → rangeCheck a1 a2 = some (.invalidMemoryAccess .busWidth a1))
    ∧ (a1 < 0x10000000 → 0x10000000 ≤ a2 → rangeCheck a1 a2 = some (.invalidMemoryAccess .busWidth a2))
    ∧ (a2 < 0x10000000 → ¬ sameZoneOrPair a1 a2 → rangeCheck a1 a2 = some (.invalidMemoryAccess .crossZoneRange a2))
    ∧ (a2 < 0x10000000 → sameZoneOrPair a1 a2 → ¬ offsetWithinZone a1 →
        rangeCheck a1 a2 = some (.invalidMemoryAccess .outOfZone a1))
    ∧ (a2 < 0x10000000 → sameZoneOrPair a1 a2 → offsetWithinZone a1 → ¬ offsetWithinZone a2 →
        rangeCheck a1 a2 = some (.invalidMemoryAccess .outOfZone a2)))
  ∧ (∀ a1 a2, rangeCheck a1 a2 = none → ∃ b i, ∀ k, k < a2 - a1 → locate (a1 + k) = some (b, i + k))
  ∧ (∀ a1 z, z ≤ 15 → z ≠ 9 → z ≠ 11 → z ≠ 13 → a1 < z * 0x1000000 →
      rangeCheck a1 (z * 0x1000000) = some (.invalidMemoryAccess .crossZoneRange (z * 0x1000000)))

/-- R38, R133: a multi-byte access is accepted exactly if its bytes are valid and consecutive in one buffer, and which error
any other access answers: that of the first byte, then that of the last byte, then the crossing of unpaired zones. -/
def Obligations.AcceptedAccessHoldsValidConsecutiveBytes : Prop :=
  ∀ a n, (n = 2 ∨ n = 4) →
    (accessCheck a n = none ↔ ∃ b i, ∀ k, k < n → locate (a + k) = some (b, i + k))
    ∧ (accessCheck a n = none ↔ validAddress a ∧ validAddress (a + n - 1) ∧ sameZoneOrPair a (a + n - 1))
    ∧ (0x10000000 ≤ a → accessCheck a n = some (.invalidMemoryAccess .busWidth a))
    ∧ (a < 0x10000000 → ¬ validAddress a → accessCheck a n = some (.invalidMemoryAccess .outOfZone a))
    ∧ (validAddress a → ¬ validAddress (a + n - 1) →
        accessCheck a n = some (.invalidMemoryAccess .outOfZone (a + n - 1)))
    ∧ (validAddress a → validAddress (a + n - 1) → ¬ sameZoneOrPair a (a + n - 1) →
        accessCheck a n = some (.invalidMemoryAccess .crossZoneRange (a + n - 1)))

/-- R131: `read8` answers the byte of the buffer at the location of every valid address, in every zone; at any other address
the error of the check. -/
def Obligations.ReadByteAnswersTheLocatedByte : Prop :=
  ∀ (m : Memory) (a : Word),
    (validAddress a.toNat → ∃ b i, locate a.toNat = some (b, i) ∧ i < b.size
      ∧ read8 m a = .ok (m.get (b.firstCell + i)) ∧ read8 m a = .ok (byteAt m a.toNat))
    ∧ (0x10000000 ≤ a.toNat → read8 m a = .error (.invalidMemoryAccess .busWidth a.toNat))
    ∧ (a.toNat < 0x10000000 → ¬ validAddress a.toNat → read8 m a = .error (.invalidMemoryAccess .outOfZone a.toNat))

/-- R39, R132, R133: the value read is the little-endian sum of the bytes, at any alignment; `read16` is the low half of
`read32` where both are valid; an access that is not accepted answers its first error. -/
def Obligations.MultiByteReadsAreLittleEndian : Prop :=
  ∀ (m : Memory) (a : Word),
    (accessCheck a.toNat 2 = none → ∃ v, read16 m a = .ok v
      ∧ v.toNat = (byteAt m a.toNat).toNat + (byteAt m (a.toNat + 1)).toNat * 2 ^ 8)
    ∧ (accessCheck a.toNat 4 = none → ∃ v, read32 m a = .ok v
      ∧ v.toNat = (byteAt m a.toNat).toNat + (byteAt m (a.toNat + 1)).toNat * 2 ^ 8
          + (byteAt m (a.toNat + 2)).toNat * 2 ^ 16 + (byteAt m (a.toNat + 3)).toNat * 2 ^ 24)
    ∧ (∀ v h, read32 m a = .ok v → read16 m a = .ok h → h = v.setWidth 16)
    ∧ (∀ e, accessCheck a.toNat 2 = some e → read16 m a = .error e)
    ∧ ∀ e, accessCheck a.toNat 4 = some e → read32 m a = .error e

/-- R134, R43: `write8` succeeds at every valid address of every zone, and changes exactly the located byte; at any other
address it answers the check's error. -/
def Obligations.WriteByteChangesExactlyTheLocatedByte : Prop :=
  ∀ (m : Memory) (a : Word) (v : Byte), m.wf →
    (validAddress a.toNat →
      ∃ m', write8 m a v = .ok m' ∧ read8 m' a = .ok v
        ∧ (∀ b, locate b = locate a.toNat → byteAt m' b = v)
        ∧ ∀ b, locate b ≠ locate a.toNat → byteAt m' b = byteAt m b)
    ∧ ∀ e, singleCheck a.toNat = some e → write8 m a v = .error e

/-- R135, R140: `write_block` over an accepted range puts the data at consecutive addresses, the first byte lowest, and
changes no other byte; over any other range it answers the range's error. -/
def Obligations.WriteBlockWritesItsRangeAndNothingElse : Prop :=
  ∀ (m : Memory) (a : Word) (data : List Byte), m.wf →
    (rangeCheck a.toNat (a.toNat + data.length) = none →
      ∃ m', writeBlock m a data = .ok m'
        ∧ (∀ k (h : k < data.length), byteAt m' (a.toNat + k) = data[k])
        ∧ ∀ b, (∀ k, k < data.length → locate b ≠ locate (a.toNat + k)) → byteAt m' b = byteAt m b)
    ∧ ∀ e, rangeCheck a.toNat (a.toNat + data.length) = some e → writeBlock m a data = .error e

/-- R136: `fill` over an accepted range repeats the four bytes of the pattern from the start of the range, low byte first,
and changes no other byte; over any other range it answers the range's error. -/
def Obligations.FillRepeatsThePatternOverItsRange : Prop :=
  ∀ (m : Memory) (a1 a2 p : Word), m.wf →
    (rangeCheck a1.toNat a2.toNat = none →
      ∃ m', fill m a1 a2 p = .ok m'
        ∧ (∀ k, k < a2.toNat - a1.toNat →
            (byteAt m' (a1.toNat + k)).toNat = p.toNat / 2 ^ (8 * (k % 4)) % 2 ^ 8)
        ∧ ∀ b, (∀ k, k < a2.toNat - a1.toNat → locate b ≠ locate (a1.toNat + k)) → byteAt m' b = byteAt m b)
    ∧ ∀ e, rangeCheck a1.toNat a2.toNat = some e → fill m a1 a2 p = .error e

/-- R137: a dump is the zone's backing bytes, lowest address first, exactly as many as the zone's size. -/
def Obligations.DumpIsTheBytesOfTheZoneInOrder : Prop :=
  ∀ (m : Memory) (z : Fin 16), (dumpZone m z).length = zoneSize z.val
    ∧ ∀ k, k < zoneSize z.val → (dumpZone m z)[k]? = some (byteAt m (zoneBase z.val + k))

/-- R138, R162: an image of at most 16384 bytes is loaded into BIOS over a fill of ones, and no other byte changes; a
larger one is a loading error. -/
def Obligations.BiosLoadFillsThenCopiesTheImage : Prop :=
  ∀ (m : Memory) (image : List Byte), m.wf →
    (image.length ≤ 16384 →
      ∃ m', loadBios m image = .ok m'
        ∧ (∀ k (h : k < image.length), read8 m' (BitVec.ofNat 32 k) = .ok image[k])
        ∧ (∀ k, image.length ≤ k → k < 16384 → read8 m' (BitVec.ofNat 32 k) = .ok 0xFF)
        ∧ ∀ b, 16384 ≤ b → byteAt m' b = byteAt m b)
    ∧ (16384 < image.length → loadBios m image = .error (.loadingError .bios image.length 16384))

/-- R139, R162: an image of at most 33554432 bytes is loaded into the ROM buffer over a fill of ones, seen alike through
the three windows, and no other byte changes; a larger one is a loading error. -/
def Obligations.RomLoadIsSeenThroughAllThreeWindows : Prop :=
  ∀ (m : Memory) (image : List Byte), m.wf →
    (image.length ≤ 33554432 →
      ∃ m', loadRom m image = .ok m'
        ∧ (∀ k (h : k < image.length) (j : Nat), j < 3 → byteAt m' (0x08000000 + j * 0x2000000 + k) = image[k])
        ∧ (∀ k j : Nat, image.length ≤ k → k < 33554432 → j < 3 → byteAt m' (0x08000000 + j * 0x2000000 + k) = 0xFF)
        ∧ ∀ b, (b < 0x08000000 ∨ 0x0E000000 ≤ b) → byteAt m' b = byteAt m b)
    ∧ (33554432 < image.length → loadRom m image = .error (.loadingError .rom image.length 33554432))

/-- R138, R139 (log entry 16): the fill before a load, which the model makes by marking the buffer and removing its
entries, is the fill byte by byte: every cell is given alike and reads alike; for a buffer marked before it is the same
data. -/
def Obligations.ClearingABufferIsFillingItWithOnes : Prop :=
  ∀ (m : Memory) (b : Buffer), m.wf →
    let n := (List.range b.size).foldl (fun n i => n.set (b.firstCell + i) 0xFF) m
    (clearBuffer m b).draw = n.draw
    ∧ (∀ cell, (clearBuffer m b).known cell = n.known cell ∧ (clearBuffer m b).get cell = n.get cell)
    ∧ (m.filled[b.index] = true → clearBuffer m b = n)

/-- R140: a host command that answers an error leaves the whole CORE as it was, and a fetch that fails leaves the buffers
as they were and sets the latch. -/
def Obligations.FailedOperationChangesNoBuffer : Prop :=
  (∀ (s : State) (c : Command) (rest : List Request) (e : Error), s.requests = .command c :: rest →
    (serveCommand s.mem c).2 = .failed e →
    step s = .next { s with requests := rest, out := { reply := some (.failed e) } })
  ∧ ∀ (s : State) (e : Error), Ready s → read32 s.mem s.pc = .error e →
    ∃ t, step s = .next t ∧ t.mem = s.mem ∧ t.fault = some e

/-- R181, R182, in the model's terms (log entries 1 to 3: which bytes are given, and the number of a free content): after the
first reset and after every later one no byte of any buffer is given, and each reads as the free byte of that reset; no
other step changes which free content lies under the given bytes, or takes a given byte back; only the five commands that
store give one; and load_bios gives every byte of BIOS. -/
def Obligations.EveryByteIsFreeUntilALoadOrAWriteGivesIt : Prop :=
  (∀ cell, State.reset.mem.known cell = none ∧ State.reset.mem.get cell = Config.initBuffers 0 cell)
  ∧ (∀ (s : State) (rest : List Request), s.requests = .reset :: rest →
    ∃ t, step s = .next t ∧ ∀ cell, t.mem.known cell = none ∧ t.mem.get cell = Config.initBuffers (s.draws + 1) cell)
  ∧ (∀ s t : State, step s = .next t → (∀ rest, s.requests ≠ .reset :: rest) →
    t.mem.draw = s.mem.draw ∧ ∀ cell, (s.mem.known cell).isSome → (t.mem.known cell).isSome)
  ∧ (∀ (s t : State) (cell : Nat), step s = .next t → (∀ rest, s.requests ≠ .reset :: rest) →
    t.mem.known cell ≠ s.mem.known cell → ∃ c rest, s.requests = .command c :: rest
      ∧ ((∃ a v, c = .write8 a v) ∨ (∃ a data, c = .writeBlock a data) ∨ (∃ a1 a2 p, c = .fill a1 a2 p)
        ∨ (∃ image, c = .loadBios image) ∨ ∃ image, c = .loadRom image))
  ∧ ∀ (m : Memory) (image : List Byte), m.wf → image.length ≤ 16384 →
    ∃ m', loadBios m image = .ok m' ∧ ∀ cell, cell < 16384 → (m'.known cell).isSome
end

