-- ==== Sys2Proof/Laws/Memory.lean ====
section
/-! SUPPORT. The laws of the memory: read after write, what counts as given since the last reset, the canonical form and
that every operation keeps it, and that equal contents are equal data. -/

namespace Sys2Proof.Machine

/-! ## Lists of cells -/

theorem lookup_of_absent {l : List Host.Cell} {c : Nat} (h : ∀ e ∈ l, e.1 ≠ c) : lookup l c = none := by
  induction l with
  | nil => rfl
  | cons e rest ih =>
    simp only [lookup, h e (by simp), if_false]
    exact ih fun e he => h e (List.mem_cons_of_mem _ he)

theorem lookup_putCell_other {l : List Host.Cell} {c d : Nat} {o : Option Byte} (h : d ≠ c) :
    lookup (putCell l c o) d = lookup l d := by
  induction l with
  | nil => cases o <;> simp [putCell, lookup, Ne.symm h]
  | cons e rest ih =>
    obtain ⟨k, u⟩ := e
    simp only [putCell]
    split
    · cases o <;> simp [lookup, Ne.symm h]
    · split
      · rename_i hk
        subst hk
        cases o <;> simp [lookup, Ne.symm h]
      · simp only [lookup, ih]

theorem lookup_putCell_same {l : List Host.Cell} {c : Nat} {o : Option Byte} (hl : l.Pairwise fun a b => a.1 < b.1) :
    lookup (putCell l c o) c = o := by
  induction l with
  | nil => cases o <;> simp [putCell, lookup]
  | cons e rest ih =>
    obtain ⟨k, u⟩ := e
    obtain ⟨hk, hrest⟩ := List.pairwise_cons.mp hl
    simp only [putCell]
    split
    · rename_i hlt
      cases o with
      | some v => simp [lookup]
      | none =>
        refine lookup_of_absent fun e he => ?_
        rcases List.mem_cons.mp he with rfl | he
        · exact Nat.ne_of_gt hlt
        · exact Nat.ne_of_gt (Nat.lt_trans hlt (hk e he))
    · split
      · rename_i hnlt heq
        subst heq
        cases o with
        | some v => simp [lookup]
        | none => exact lookup_of_absent fun e he => Nat.ne_of_gt (hk e he)
      · rename_i hnlt hne
        simp only [lookup, Ne.symm hne, if_false]
        exact ih hrest

/-- Every entry after `putCell` is an old one or the one put. -/
theorem mem_putCell {l : List Host.Cell} {c : Nat} {o : Option Byte} {e : Host.Cell} (h : e ∈ putCell l c o) :
    e ∈ l ∨ ∃ v, o = some v ∧ e = (c, v) := by
  induction l with
  | nil => cases o <;> simp_all [putCell]
  | cons k rest ih =>
    obtain ⟨k, u⟩ := k
    simp only [putCell] at h
    split at h
    · cases o with
      | none => exact .inl (by simpa using h)
      | some v =>
        rcases List.mem_cons.mp (show e ∈ (c, v) :: (k, u) :: rest from h) with rfl | h
        · exact .inr ⟨v, rfl, rfl⟩
        · exact .inl h
    · split at h
      · cases o with
        | none => exact .inl (List.mem_cons_of_mem _ (by simpa using h))
        | some v =>
          rcases List.mem_cons.mp (show e ∈ (c, v) :: rest from h) with rfl | h
          · exact .inr ⟨v, rfl, rfl⟩
          · exact .inl (List.mem_cons_of_mem _ h)
      · rcases List.mem_cons.mp h with rfl | h
        · exact .inl (by simp)
        · rcases ih h with h | h
          · exact .inl (List.mem_cons_of_mem _ h)
          · exact .inr h

theorem putCell_sorted {l : List Host.Cell} {c : Nat} {o : Option Byte} (hl : l.Pairwise fun a b => a.1 < b.1) :
    (putCell l c o).Pairwise fun a b => a.1 < b.1 := by
  induction l with
  | nil => cases o <;> simp [putCell]
  | cons e rest ih =>
    obtain ⟨k, u⟩ := e
    obtain ⟨hk, hrest⟩ := List.pairwise_cons.mp hl
    simp only [putCell]
    split
    · rename_i hlt
      cases o with
      | none => simpa using hl
      | some v =>
        refine List.pairwise_cons.mpr ⟨fun e he => ?_, hl⟩
        rcases List.mem_cons.mp (by simpa using he) with rfl | he
        · exact hlt
        · exact Nat.lt_trans hlt (hk e he)
    · split
      · rename_i hnlt heq
        subst heq
        cases o with
        | none => simpa using hrest
        | some v => exact List.pairwise_cons.mpr ⟨fun e he => hk e (by simpa using he), hrest⟩
      · rename_i hnlt hne
        refine List.pairwise_cons.mpr ⟨fun e he => ?_, ih hrest⟩
        rcases mem_putCell he with he | ⟨v, -, rfl⟩
        · exact hk e he
        · exact Nat.lt_of_le_of_ne (Nat.le_of_not_lt hnlt) (Ne.symm hne)

/-- A cell below every listed one has no entry. -/
theorem lookup_of_lt {l : List Host.Cell} {c : Nat} (h : ∀ e ∈ l, c < e.1) : lookup l c = none :=
  lookup_of_absent fun e he => Nat.ne_of_gt (h e he)

/-- The entry found for a cell is in the list. -/
theorem mem_of_lookup {l : List Host.Cell} {c : Nat} {v : Byte} (h : lookup l c = some v) : (c, v) ∈ l := by
  induction l with
  | nil => simp [lookup] at h
  | cons e rest ih =>
    obtain ⟨k, u⟩ := e
    simp only [lookup] at h
    split at h
    · rename_i hk
      cases h
      simp [hk]
    · exact List.mem_cons_of_mem _ (ih h)

/-- Two rising lists with the same entries are the same list. -/
theorem ext_of_lookup {l l' : List Host.Cell} (hl : l.Pairwise fun a b => a.1 < b.1)
    (hl' : l'.Pairwise fun a b => a.1 < b.1) (h : ∀ c, lookup l c = lookup l' c) : l = l' := by
  induction l generalizing l' with
  | nil =>
    cases l' with
    | nil => rfl
    | cons e rest => simpa [lookup] using h e.1
  | cons e rest ih =>
    obtain ⟨k, u⟩ := e
    cases l' with
    | nil => simpa [lookup] using h k
    | cons f rest' =>
      obtain ⟨j, w⟩ := f
      obtain ⟨hk, hrest⟩ := List.pairwise_cons.mp hl
      obtain ⟨hj, hrest'⟩ := List.pairwise_cons.mp hl'
      have hkj : k = j := by
        rcases Nat.lt_trichotomy k j with hlt | heq | hgt
        · have := h k
          rw [lookup_of_lt (l := (j, w) :: rest')] at this
          · simp [lookup] at this
          · intro e he
            rcases List.mem_cons.mp he with rfl | he
            · exact hlt
            · exact Nat.lt_trans hlt (hj e he)
        · exact heq
        · have := h j
          rw [lookup_of_lt (l := (k, u) :: rest)] at this
          · simp [lookup] at this
          · intro e he
            rcases List.mem_cons.mp he with rfl | he
            · exact hgt
            · exact Nat.lt_trans hgt (hk e he)
      subst hkj
      have huw : u = w := by simpa [lookup] using h k
      subst huw
      congr 1
      refine ih hrest hrest' fun c => ?_
      by_cases hc : k = c
      · subst hc
        rw [lookup_of_lt hk, lookup_of_lt hj]
      · simpa [lookup, hc] using h c

/-! ## One cell -/

theorem Memory.get_of_known {m n : Memory} {c : Nat} (h : m.known c = n.known c) (hd : m.draw = n.draw) :
    m.get c = n.get c := by simp only [Memory.get, h, hd]

theorem Memory.get_of_known_some {m : Memory} {c : Nat} {v : Byte} (h : m.known c = some v) : m.get c = v := by
  simp only [Memory.get, h]

/-- A byte that nothing has given since the reset reads as the free byte of that reset (R181). -/
theorem Memory.get_of_known_none {m : Memory} {c : Nat} (h : m.known c = none) :
    m.get c = Config.initBuffers m.draw c := by simp only [Memory.get, h]

theorem Memory.set_cells (m : Memory) (c : Nat) (v : Byte) :
    (m.set c v).cells = putCell m.cells c (if m.isFilled c ∧ v = 0xFF then none else some v) := rfl
@[simp] theorem Memory.set_draw (m : Memory) (c : Nat) (v : Byte) : (m.set c v).draw = m.draw := rfl
@[simp] theorem Memory.set_filled (m : Memory) (c : Nat) (v : Byte) : (m.set c v).filled = m.filled := rfl
@[simp] theorem Memory.set_isFilled (m : Memory) (c : Nat) (v : Byte) : (m.set c v).isFilled = m.isFilled := rfl

theorem Memory.known_set_other {m : Memory} {c d : Nat} {v : Byte} (h : d ≠ c) :
    (m.set c v).known d = m.known d := by
  simp only [Memory.known, Memory.set_cells, lookup_putCell_other h]
  rfl

theorem Memory.known_set_same {m : Memory} {c : Nat} {v : Byte} (hm : m.cells.Pairwise fun a b => a.1 < b.1) :
    (m.set c v).known c = some v := by
  simp only [Memory.known, Memory.set_isFilled, Memory.set_cells, lookup_putCell_same hm]
  by_cases h : m.isFilled c = true ∧ v = 0xFF
  · rw [if_pos h, h.2]
    exact if_pos h.1
  · rw [if_neg h]

theorem Memory.get_set_other {m : Memory} {c d : Nat} {v : Byte} (h : d ≠ c) : (m.set c v).get d = m.get d :=
  Memory.get_of_known (Memory.known_set_other h) rfl

theorem Memory.get_set_same {m : Memory} {c : Nat} {v : Byte} (hm : m.cells.Pairwise fun a b => a.1 < b.1) :
    (m.set c v).get c = v := Memory.get_of_known_some (Memory.known_set_same hm)

/-! ## The memory after a reset (R181) -/

@[simp] theorem Memory.fresh_cells (n : Nat) : (Memory.fresh n).cells = [] := rfl
@[simp] theorem Memory.fresh_draw (n : Nat) : (Memory.fresh n).draw = n := rfl
@[simp] theorem Memory.fresh_filled (n : Nat) : (Memory.fresh n).filled = .replicate 9 false := rfl

@[simp] theorem Memory.fresh_isFilled (n c : Nat) : (Memory.fresh n).isFilled c = false := by
  simp [Memory.isFilled]

@[simp] theorem Memory.fresh_known (n c : Nat) : (Memory.fresh n).known c = none := by
  simp [Memory.known, lookup]

@[simp] theorem Memory.fresh_get (n c : Nat) : (Memory.fresh n).get c = Config.initBuffers n c :=
  Memory.get_of_known_none (Memory.fresh_known n c)

/-! ## The canonical form -/

theorem Memory.fresh_wf (n : Nat) : (Memory.fresh n).wf := by simp [Memory.wf]

theorem Memory.set_wf {m : Memory} {c : Nat} {v : Byte} (hm : m.wf) (hc : isStorage c = true) : (m.set c v).wf := by
  refine ⟨putCell_sorted hm.1, fun e he => ?_⟩
  rcases mem_putCell he with he | ⟨w, hw, rfl⟩
  · exact hm.2 e he
  · refine ⟨hc, fun hf => ?_⟩
    split at hw
    · simp at hw
    · rename_i h
      cases hw
      exact fun hv => h ⟨hf, hv⟩

/-- Equal contents are equal data: two canonical memories over the same reset and fills, in which the same bytes are given
and alike, are the same. -/
theorem Memory.ext_of_wf {m n : Memory} (hm : m.wf) (hn : n.wf) (hd : m.draw = n.draw) (hf : m.filled = n.filled)
    (h : ∀ c, m.known c = n.known c) : m = n := by
  have hfill : ∀ c, m.isFilled c = n.isFilled c := fun c => by simp only [Memory.isFilled, hf]
  suffices hc : m.cells = n.cells by
    cases m; cases n; simp_all
  refine ext_of_lookup hm.1 hn.1 fun c => ?_
  have hc := h c
  simp only [Memory.known, hfill] at hc
  cases hl : lookup m.cells c with
  | none =>
    cases hl' : lookup n.cells c with
    | none => rfl
    | some w =>
      have := (hn.2 _ (mem_of_lookup hl')).2
      cases hfc : n.isFilled c <;> simp_all
  | some v =>
    cases hl' : lookup n.cells c with
    | none =>
      have := (hm.2 _ (mem_of_lookup hl)).2
      cases hfc : n.isFilled c <;> simp_all
    | some w => simpa [hl, hl'] using hc

/-! ## The zone mapper -/

/-- A zone index is below 16. -/
theorem zone_lt (a : Nat) : zone a < 16 := Nat.mod_lt _ (by decide)

/-- What the zone table and the sizes fit together to: an offset inside a zone is an index inside its buffer. -/
theorem zoneRow_fits {z : Nat} {b : Buffer} {start : Nat} (h : (zoneRow z).backing = some (b, start)) :
    start + zoneSize z ≤ b.size := by
  unfold zoneSize
  unfold zoneRow at *
  split at h <;> simp_all <;> (obtain ⟨rfl, rfl⟩ := h; decide)

/-- A valid address locates a byte inside its buffer (R33). -/
theorem locate_lt_size {a : Nat} {b : Buffer} {i : Nat} (h : locate a = some (b, i)) : i < b.size := by
  unfold locate at h
  split at h
  · rename_i hv
    rw [Option.map_eq_some_iff] at h
    obtain ⟨⟨b', start⟩, hb, heq⟩ := h
    obtain ⟨rfl, rfl⟩ := Prod.mk.injEq .. ▸ heq
    exact Nat.lt_of_lt_of_le (Nat.add_lt_add_left hv.2 start) (zoneRow_fits hb)
  · simp at h

theorem Buffer.holds_cell (b : Buffer) {i : Nat} (h : i < b.size) : b.holds (b.firstCell + i) = true := by
  simp only [Buffer.holds, decide_eq_true_eq]
  omega

theorem Buffer.mem_all (b : Buffer) : b ∈ Buffer.all := by cases b <;> decide

theorem isStorage_cell (b : Buffer) {i : Nat} (h : i < b.size) : isStorage (b.firstCell + i) = true :=
  List.any_eq_true.mpr ⟨b, b.mem_all, b.holds_cell h⟩

theorem cellOf_storage {a c : Nat} (h : cellOf a = some c) : isStorage c = true := by
  unfold cellOf at h
  rw [Option.map_eq_some_iff] at h
  obtain ⟨⟨b, i⟩, hl, rfl⟩ := h
  exact isStorage_cell b (locate_lt_size hl)

/-- The cells of different buffers are different: a cell belongs to one buffer only. -/
theorem Buffer.holds_unique {b d : Buffer} {c : Nat} (hb : b.holds c = true) (hd : d.holds c = true) : b = d := by
  simp only [Buffer.holds, decide_eq_true_eq] at hb hd
  cases b <;> cases d <;> simp only [Buffer.firstCell, Buffer.size] at hb hd <;> first | rfl | omega

/-- A mapped zone has a buffer. -/
theorem zoneRow_backing_of_lt {z : Nat} {o : Nat} (h : o < zoneSize z) : (zoneRow z).backing.isSome := by
  unfold zoneSize zoneRow at *
  split at h <;> simp_all

/-- An address is valid exactly if it locates a byte (R33, R35). -/
theorem singleCheck_none_iff (a : Nat) : singleCheck a = none ↔ (cellOf a).isSome := by
  unfold singleCheck cellOf locate
  by_cases hb : busOk a = true
  · by_cases ho : offset a < zoneSize (zone a)
    · have := zoneRow_backing_of_lt ho
      simp [hb, ho, Nat.not_le.mpr ho, Option.isSome_map, this]
    · simp [hb, ho, Nat.not_lt.mp ho]
  · simp [hb]

/-! ## The commands -/

theorem setByteAt_wf {m : Memory} {a : Nat} {v : Byte} (hm : m.wf) : (setByteAt m a v).wf := by
  unfold setByteAt
  split
  · rename_i c hc
    exact Memory.set_wf hm (cellOf_storage hc)
  · exact hm

theorem writeBytes_wf {m : Memory} {a : Nat} {data : List Byte} (hm : m.wf) : (writeBytes m a data).wf := by
  induction data generalizing m a with
  | nil => exact hm
  | cons v rest ih => exact ih (setByteAt_wf hm)

theorem fillBytes_wf {m : Memory} {a : Nat} {p : Word} {n : Nat} (hm : m.wf) : (fillBytes m a p n).wf := by
  induction n with
  | zero => exact hm
  | succ n ih => exact setByteAt_wf ih

/-- After the fill of a buffer, exactly its own cells and those filled before count as filled. -/
theorem clearBuffer_isFilled (m : Memory) (b : Buffer) (c : Nat) :
    (clearBuffer m b).isFilled c = (b.holds c || m.isFilled c) := by
  have hset : ∀ d : Buffer, (m.filled.set b.index true)[d.index] = (decide (b = d) || m.filled[d.index]) := by
    intro d
    cases b <;> cases d <;> simp [Buffer.index]
  simp only [Memory.isFilled, clearBuffer, hset]
  rw [Bool.eq_iff_iff]
  simp only [List.any_eq_true, Bool.and_eq_true, Bool.or_eq_true, decide_eq_true_eq]
  constructor
  · rintro ⟨d, hd, hc, rfl | hf⟩
    · exact .inl hc
    · exact .inr ⟨d, hd, hc, hf⟩
  · rintro (hc | ⟨d, hd, hc, hf⟩)
    · exact ⟨b, b.mem_all, hc, .inl rfl⟩
    · exact ⟨d, hd, hc, .inr hf⟩

theorem clearBuffer_wf {m : Memory} {b : Buffer} (hm : m.wf) : (clearBuffer m b).wf := by
  refine ⟨hm.1.sublist List.filter_sublist, fun e he => ?_⟩
  obtain ⟨hmem, hb⟩ := List.mem_filter.mp he
  refine ⟨(hm.2 e hmem).1, fun hf => (hm.2 e hmem).2 ?_⟩
  rw [clearBuffer_isFilled] at hf
  simpa [show b.holds e.1 = false by simpa using hb] using hf

theorem storeImage_wf {m : Memory} {b : Buffer} {i : Nat} {image : List Byte} (hm : m.wf)
    (h : i + image.length ≤ b.size) : (storeImage m b i image).wf := by
  induction image generalizing m i with
  | nil => exact hm
  | cons v rest ih =>
    simp only [List.length_cons] at h
    exact ih (Memory.set_wf hm (isStorage_cell b (by omega))) (by omega)

@[simp] theorem clearBuffer_draw (m : Memory) (b : Buffer) : (clearBuffer m b).draw = m.draw := rfl

theorem lookup_filter {l : List Host.Cell} {p : Nat → Bool} {c : Nat} :
    lookup (l.filter fun e => p e.1) c = if p c then lookup l c else none := by
  induction l with
  | nil => simp [lookup]
  | cons e rest ih =>
    obtain ⟨k, u⟩ := e
    rw [List.filter_cons]
    by_cases hk : p k = true
    · simp only [hk, if_true, lookup, ih]
      by_cases hkc : k = c
      · subst hkc; simp [hk]
      · simp [hkc]
    · simp only [hk, Bool.false_eq_true, if_false, ih, lookup]
      by_cases hkc : k = c
      · subst hkc; simp [hk]
      · simp [hkc]

/-- After the fill of a buffer, its cells are given as 0xFF and every other cell is as before (R138, R139). -/
theorem clearBuffer_known (m : Memory) (b : Buffer) (c : Nat) :
    (clearBuffer m b).known c = if b.holds c then some 0xFF else m.known c := by
  simp only [Memory.known, clearBuffer_isFilled]
  rw [clearBuffer, lookup_filter (p := fun k => !b.holds k)]
  cases hb : b.holds c <;> simp

/-- After the fill of a buffer, its cells read 0xFF and every other cell reads as before (R138, R139). -/
theorem clearBuffer_get (m : Memory) (b : Buffer) (c : Nat) :
    (clearBuffer m b).get c = if b.holds c then 0xFF else m.get c := by
  simp only [Memory.get, clearBuffer_known, clearBuffer_draw]
  cases hb : b.holds c <;> simp

/-! What the reply of a command is, for each answer of its function (R130). -/

@[simp] theorem readReply_ok {α : Type} (f : α → Reply) (v : α) : readReply f (.ok v) = f v := rfl
@[simp] theorem readReply_error {α : Type} (f : α → Reply) (e : Error) : readReply f (.error e) = .failed e := rfl
@[simp] theorem writeReply_ok (m m' : Memory) : writeReply m (.ok m') = (m', .done) := rfl
@[simp] theorem writeReply_error (m : Memory) (e : Error) : writeReply m (.error e) = (m, .failed e) := rfl

/-- A write command that succeeds answers a canonical memory, whatever it writes. -/
theorem serveCommand_wf {m : Memory} (c : Command) (hm : m.wf) : (serveCommand m c).1.wf := by
  have keep : ∀ r : Except Error Memory, (∀ m', r = .ok m' → m'.wf) → (writeReply m r).1.wf := by
    intro r h
    cases r with
    | ok m' => exact h m' rfl
    | error e => exact hm
  have load : ∀ (b : Buffer) (image : List Byte) (m' : Memory), loadBuffer m b image = .ok m' → m'.wf := by
    intro b image m' h
    unfold loadBuffer at h
    split at h
    · simp at h
    · cases h
      exact storeImage_wf (clearBuffer_wf hm) (by omega)
  cases c with
  | read8 a => exact hm
  | read16 a => exact hm
  | read32 a => exact hm
  | dumpZone z => exact hm
  | write8 a v =>
    refine keep _ fun m' h => ?_
    unfold write8 at h
    split at h
    · simp at h
    · cases h; exact setByteAt_wf hm
  | writeBlock a data =>
    refine keep _ fun m' h => ?_
    unfold writeBlock at h
    split at h
    · simp at h
    · cases h; exact writeBytes_wf hm
  | fill a1 a2 p =>
    refine keep _ fun m' h => ?_
    unfold fill at h
    split at h
    · simp at h
    · cases h; exact fillBytes_wf hm
  | loadBios image => exact keep _ fun m' h => load .bios image m' h
  | loadRom image => exact keep _ fun m' h => load .rom image m' h

/-! ## What is given is not taken back (R181) -/

/-- What writing can do to what is given: the free content underneath stays, and a byte that is given stays given. -/
abbrev Memory.Extends (m n : Memory) : Prop :=
  n.draw = m.draw ∧ ∀ cell, (m.known cell).isSome → (n.known cell).isSome

theorem Memory.extends_refl (m : Memory) : m.Extends m := ⟨rfl, fun _ h => h⟩

theorem Memory.extends_trans {m n o : Memory} (h : m.Extends n) (h' : n.Extends o) : m.Extends o :=
  ⟨h'.1.trans h.1, fun c hc => h'.2 c (h.2 c hc)⟩

theorem lookup_putCell_some {l : List Host.Cell} {c : Nat} {v : Byte} : lookup (putCell l c (some v)) c = some v := by
  induction l with
  | nil => simp [putCell, lookup]
  | cons e rest ih =>
    simp only [putCell]
    split
    · simp [lookup]
    · split
      · simp [lookup]
      · rename_i h
        simp only [lookup, Ne.symm h, if_false, ih]

theorem Memory.extends_set (m : Memory) (c : Nat) (v : Byte) : m.Extends (m.set c v) := by
  refine ⟨rfl, fun d hd => ?_⟩
  by_cases h : d = c
  · subst h
    simp only [Memory.known, Memory.set_isFilled, Memory.set_cells]
    by_cases hf : m.isFilled d = true
    · split <;> simp [hf]
    · rw [if_neg fun hc => hf hc.1, lookup_putCell_some]
      rfl
  · rwa [Memory.known_set_other h]

theorem extends_setByteAt (m : Memory) (a : Nat) (v : Byte) : m.Extends (setByteAt m a v) := by
  unfold setByteAt
  split
  · exact Memory.extends_set ..
  · exact Memory.extends_refl m

theorem extends_writeBytes (m : Memory) (a : Nat) (data : List Byte) : m.Extends (writeBytes m a data) := by
  induction data generalizing m a with
  | nil => exact Memory.extends_refl m
  | cons v rest ih => exact Memory.extends_trans (extends_setByteAt m a v) (ih ..)

theorem extends_fillBytes (m : Memory) (a : Nat) (p : Word) (n : Nat) : m.Extends (fillBytes m a p n) := by
  induction n with
  | zero => exact Memory.extends_refl m
  | succ n ih => exact Memory.extends_trans ih (extends_setByteAt ..)

theorem extends_clearBuffer (m : Memory) (b : Buffer) : m.Extends (clearBuffer m b) := by
  refine ⟨rfl, fun c hc => ?_⟩
  rw [clearBuffer_known]
  split
  · rfl
  · exact hc

theorem extends_storeImage (m : Memory) (b : Buffer) (i : Nat) (image : List Byte) :
    m.Extends (storeImage m b i image) := by
  induction image generalizing m i with
  | nil => exact Memory.extends_refl m
  | cons v rest ih => exact Memory.extends_trans (Memory.extends_set m _ v) (ih ..)

/-- No command changes the free content or takes a given byte back. -/
theorem extends_serveCommand (m : Memory) (c : Command) : m.Extends (serveCommand m c).1 := by
  have keep : ∀ r : Except Error Memory, (∀ m', r = .ok m' → m.Extends m') → m.Extends (writeReply m r).1 := by
    intro r h
    cases r with
    | ok m' => exact h m' rfl
    | error e => exact Memory.extends_refl m
  have load : ∀ (b : Buffer) (image : List Byte) (m' : Memory), loadBuffer m b image = .ok m' → m.Extends m' := by
    intro b image m' h
    unfold loadBuffer at h
    split at h
    · simp at h
    · cases h
      exact Memory.extends_trans (extends_clearBuffer m b) (extends_storeImage ..)
  cases c with
  | read8 a => exact Memory.extends_refl m
  | read16 a => exact Memory.extends_refl m
  | read32 a => exact Memory.extends_refl m
  | dumpZone z => exact Memory.extends_refl m
  | write8 a v =>
    refine keep _ fun m' h => ?_
    unfold write8 at h
    split at h
    · simp at h
    · cases h; exact extends_setByteAt ..
  | writeBlock a data =>
    refine keep _ fun m' h => ?_
    unfold writeBlock at h
    split at h
    · simp at h
    · cases h; exact extends_writeBytes ..
  | fill a1 a2 p =>
    refine keep _ fun m' h => ?_
    unfold fill at h
    split at h
    · simp at h
    · cases h; exact extends_fillBytes ..
  | loadBios image => exact keep _ fun m' h => load .bios image m' h
  | loadRom image => exact keep _ fun m' h => load .rom image m' h

end Sys2Proof.Machine
end

