-- ==== Sys2Proof/Laws/Bytes.lean ====
section
/-! SUPPORT. Read after write through addresses: what `byteAt` answers after each of the writing operations. -/

namespace Sys2Proof.Machine

/-! ## One byte -/

/-- Two addresses have the same cell exactly if they locate the same byte (R33, R34). -/
theorem locate_eq_of_cellOf {a b c : Nat} (ha : cellOf a = some c) (hb : cellOf b = some c) : locate a = locate b := by
  unfold cellOf at ha hb
  rw [Option.map_eq_some_iff] at ha hb
  obtain ⟨⟨d, i⟩, hd, hdc⟩ := ha
  obtain ⟨⟨e, j⟩, he, hec⟩ := hb
  have h1 := d.holds_cell (locate_lt_size hd)
  have h2 := e.holds_cell (locate_lt_size he)
  simp only at hdc hec
  rw [hdc] at h1
  rw [hec] at h2
  obtain rfl := Buffer.holds_unique h1 h2
  have : i = j := by omega
  rw [hd, he, this]

theorem cellOf_eq_of_locate {a b : Nat} (h : locate a = locate b) : cellOf a = cellOf b := by
  unfold cellOf
  rw [h]

theorem cellOf_isSome_of_locate {a : Nat} {l : Buffer × Nat} (h : locate a = some l) : (cellOf a).isSome := by
  unfold cellOf
  rw [h]
  rfl

/-- The byte read through `b` after a write through `a` that locates the same byte is the byte written. -/
theorem byteAt_setByteAt_same {m : Memory} {a b : Nat} {v : Byte} (hm : m.wf) (ha : (cellOf a).isSome)
    (h : cellOf b = cellOf a) : byteAt (setByteAt m a v) b = v := by
  obtain ⟨c, hc⟩ := Option.isSome_iff_exists.mp ha
  simp only [byteAt, setByteAt, h, hc]
  exact Memory.get_set_same hm.1

/-- The byte read through `b` after a write through `a` that locates another byte is as before. -/
theorem byteAt_setByteAt_other {m : Memory} {a b : Nat} {v : Byte} (h : cellOf b ≠ cellOf a) :
    byteAt (setByteAt m a v) b = byteAt m b := by
  unfold byteAt setByteAt
  cases ha : cellOf a with
  | none => rfl
  | some c =>
    cases hb : cellOf b with
    | none => rfl
    | some d => exact Memory.get_set_other fun e => h (by rw [ha, hb, e])

/-! ## Several bytes -/

theorem byteAt_writeBytes_other {data : List Byte} {m : Memory} {a b : Nat}
    (h : ∀ k, k < data.length → cellOf b ≠ cellOf (a + k)) : byteAt (writeBytes m a data) b = byteAt m b := by
  induction data generalizing m a with
  | nil => rfl
  | cons v rest ih =>
    simp only [writeBytes]
    rw [ih fun k hk => ?_, byteAt_setByteAt_other (a := a) (h 0 (by simp))]
    rw [Nat.add_assoc, Nat.add_comm 1 k]
    exact h (k + 1) (by simpa using hk)

/-- The bytes of a block whose addresses are valid and locate different bytes are read back. -/
theorem byteAt_writeBytes_at {data : List Byte} {m : Memory} {a : Nat} (hm : m.wf)
    (hv : ∀ k, k < data.length → (cellOf (a + k)).isSome)
    (hd : ∀ j k, j < data.length → k < data.length → cellOf (a + j) = cellOf (a + k) → j = k)
    {k : Nat} (hk : k < data.length) : byteAt (writeBytes m a data) (a + k) = data[k] := by
  induction data generalizing m a k with
  | nil => simp at hk
  | cons v rest ih =>
    simp only [writeBytes]
    cases k with
    | zero =>
      rw [byteAt_writeBytes_other fun j hj e => ?_]
      · exact byteAt_setByteAt_same hm (hv 0 (by simp)) rfl
      · have := hd 0 (j + 1) (by simp) (by simpa using hj) (by rw [e, Nat.add_assoc, Nat.add_comm 1 j])
        omega
    | succ k =>
      have shift : ∀ j, a + 1 + j = a + (j + 1) := by intro j; omega
      have := ih (m := setByteAt m a v) (a := a + 1) (k := k) (setByteAt_wf hm)
        (fun j hj => by rw [shift]; exact hv (j + 1) (by simpa using hj))
        (fun i j hi hj e => by
          rw [shift, shift] at e
          have := hd (i + 1) (j + 1) (by simpa using hi) (by simpa using hj) e
          omega)
        (by simpa using hk)
      rw [← shift k, this]
      rfl

theorem byteAt_fillBytes_other {m : Memory} {a b n : Nat} {p : Word} (h : ∀ k, k < n → cellOf b ≠ cellOf (a + k)) :
    byteAt (fillBytes m a p n) b = byteAt m b := by
  induction n with
  | zero => rfl
  | succ n ih =>
    simp only [fillBytes]
    rw [byteAt_setByteAt_other (h n (by omega)), ih fun k hk => h k (by omega)]

theorem byteAt_fillBytes_at {m : Memory} {a n : Nat} {p : Word} (hm : m.wf)
    (hv : ∀ k, k < n → (cellOf (a + k)).isSome)
    (hd : ∀ j k, j < n → k < n → cellOf (a + j) = cellOf (a + k) → j = k) {k : Nat} (hk : k < n) :
    byteAt (fillBytes m a p n) (a + k) = patternByte p k := by
  induction n with
  | zero => omega
  | succ n ih =>
    simp only [fillBytes]
    by_cases h : k = n
    · subst h
      exact byteAt_setByteAt_same (fillBytes_wf hm) (hv k (by omega)) rfl
    · rw [byteAt_setByteAt_other fun e => h (hd k n (by omega) (by omega) e)]
      exact ih (fun j hj => hv j (by omega)) (fun i j hi hj => hd i j (by omega) (by omega)) (by omega)

/-! ## Loading a buffer -/

theorem get_storeImage_other {image : List Byte} {m : Memory} {b : Buffer} {i c : Nat}
    (h : ∀ k, k < image.length → c ≠ b.firstCell + (i + k)) : (storeImage m b i image).get c = m.get c := by
  induction image generalizing m i with
  | nil => rfl
  | cons v rest ih =>
    simp only [storeImage]
    rw [ih fun k hk => ?_, Memory.get_set_other (d := c) (c := b.firstCell + i) (h 0 (by simp))]
    have := h (k + 1) (by simpa using hk)
    omega

theorem get_storeImage_at {image : List Byte} {m : Memory} {b : Buffer} {i : Nat} (hm : m.wf)
    (hs : i + image.length ≤ b.size) {k : Nat} (hk : k < image.length) :
    (storeImage m b i image).get (b.firstCell + (i + k)) = image[k] := by
  induction image generalizing m i k with
  | nil => simp at hk
  | cons v rest ih =>
    simp only [List.length_cons] at hs
    simp only [storeImage]
    cases k with
    | zero =>
      rw [get_storeImage_other fun j _ => by omega]
      exact Memory.get_set_same hm.1
    | succ k =>
      have := ih (m := Memory.set m (b.firstCell + i) v) (i := i + 1) (k := k)
        (Memory.set_wf hm (isStorage_cell b (by omega))) (by omega) (by simpa using hk)
      rw [show i + (k + 1) = i + 1 + k by omega, this]
      rfl

end Sys2Proof.Machine
end

