-- ==== Sys2Proof/Laws/State.lean ====
section
/-! SUPPORT. One lemma per field per update of the state, true by rfl, so that no proof unfolds a record update; and the
reads of registers after them. -/

namespace Sys2Proof.Machine

/-! ## Registers -/

@[simp] theorem State.readReg_writeReg_same (s : State) (i : Fin 16) (v : Word) : (s.writeReg i v).readReg i = v := by
  simp [State.readReg, State.writeReg]

theorem State.readReg_writeReg_other (s : State) (i j : Fin 16) (v : Word) (h : j ≠ i) :
    (s.writeReg i v).readReg j = s.readReg j := by
  have : (i : Nat) ≠ (j : Nat) := fun e => h (Fin.ext e.symm)
  simp [State.readReg, State.writeReg, this]

@[simp] theorem State.pc_setPc (s : State) (v : Word) : (s.setPc v).pc = v := State.readReg_writeReg_same s 15 v

/-- The pc and the registers depend on the register file alone. -/
theorem State.pc_of_x {s t : State} (h : s.x = t.x) : s.pc = t.pc := by simp only [State.pc, State.readReg, h]

theorem State.readReg_of_x {s t : State} (h : s.x = t.x) (i : Fin 16) : s.readReg i = t.readReg i := by
  simp only [State.readReg, h]

/-! ## State.writeReg -/

@[simp] theorem State.writeReg_x (s : State) (i : Fin 16) (v : Word) : (s.writeReg i v).x = s.x.set i v := rfl
@[simp] theorem State.writeReg_bank (s : State) (i : Fin 16) (v : Word) : (s.writeReg i v).bank = s.bank := rfl
@[simp] theorem State.writeReg_psr (s : State) (i : Fin 16) (v : Word) : (s.writeReg i v).psr = s.psr := rfl
@[simp] theorem State.writeReg_slotF (s : State) (i : Fin 16) (v : Word) : (s.writeReg i v).slotF = s.slotF := rfl
@[simp] theorem State.writeReg_slotD (s : State) (i : Fin 16) (v : Word) : (s.writeReg i v).slotD = s.slotD := rfl
@[simp] theorem State.writeReg_slotX (s : State) (i : Fin 16) (v : Word) : (s.writeReg i v).slotX = s.slotX := rfl
@[simp] theorem State.writeReg_mem (s : State) (i : Fin 16) (v : Word) : (s.writeReg i v).mem = s.mem := rfl
@[simp] theorem State.writeReg_fault (s : State) (i : Fin 16) (v : Word) : (s.writeReg i v).fault = s.fault := rfl
@[simp] theorem State.writeReg_params (s : State) (i : Fin 16) (v : Word) : (s.writeReg i v).params = s.params := rfl
@[simp] theorem State.writeReg_options (s : State) (i : Fin 16) (v : Word) : (s.writeReg i v).options = s.options := rfl
@[simp] theorem State.writeReg_requests (s : State) (i : Fin 16) (v : Word) : (s.writeReg i v).requests = s.requests := rfl
@[simp] theorem State.writeReg_out (s : State) (i : Fin 16) (v : Word) : (s.writeReg i v).out = s.out := rfl
@[simp] theorem State.writeReg_draws (s : State) (i : Fin 16) (v : Word) : (s.writeReg i v).draws = s.draws := rfl

/-! ## State.latch -/

@[simp] theorem State.latch_x (s : State) (e : Error) : (s.latch e).x = s.x := rfl
@[simp] theorem State.latch_bank (s : State) (e : Error) : (s.latch e).bank = s.bank := rfl
@[simp] theorem State.latch_psr (s : State) (e : Error) : (s.latch e).psr = s.psr := rfl
@[simp] theorem State.latch_slotF (s : State) (e : Error) : (s.latch e).slotF = s.slotF := rfl
@[simp] theorem State.latch_slotD (s : State) (e : Error) : (s.latch e).slotD = s.slotD := rfl
@[simp] theorem State.latch_slotX (s : State) (e : Error) : (s.latch e).slotX = s.slotX := rfl
@[simp] theorem State.latch_mem (s : State) (e : Error) : (s.latch e).mem = s.mem := rfl
@[simp] theorem State.latch_fault (s : State) (e : Error) : (s.latch e).fault = some e := rfl
@[simp] theorem State.latch_params (s : State) (e : Error) : (s.latch e).params = s.params := rfl
@[simp] theorem State.latch_options (s : State) (e : Error) : (s.latch e).options = s.options := rfl
@[simp] theorem State.latch_requests (s : State) (e : Error) : (s.latch e).requests = s.requests := rfl
@[simp] theorem State.latch_out (s : State) (e : Error) : (s.latch e).out = s.out := rfl
@[simp] theorem State.latch_draws (s : State) (e : Error) : (s.latch e).draws = s.draws := rfl

/-! ## State.hostReset -/

@[simp] theorem State.hostReset_x (s : State) : (s.hostReset).x = .replicate 16 0 := rfl
@[simp] theorem State.hostReset_bank (s : State) : (s.hostReset).bank = .zero := rfl
@[simp] theorem State.hostReset_psr (s : State) : (s.hostReset).psr = .zero := rfl
@[simp] theorem State.hostReset_slotF (s : State) : (s.hostReset).slotF = none := rfl
@[simp] theorem State.hostReset_slotD (s : State) : (s.hostReset).slotD = none := rfl
@[simp] theorem State.hostReset_slotX (s : State) : (s.hostReset).slotX = none := rfl
@[simp] theorem State.hostReset_mem (s : State) : (s.hostReset).mem = Memory.fresh (s.draws + 1) := rfl
@[simp] theorem State.hostReset_fault (s : State) : (s.hostReset).fault = none := rfl
@[simp] theorem State.hostReset_params (s : State) : (s.hostReset).params = s.params := rfl
@[simp] theorem State.hostReset_options (s : State) : (s.hostReset).options = s.options := rfl
@[simp] theorem State.hostReset_requests (s : State) : (s.hostReset).requests = s.requests := rfl
@[simp] theorem State.hostReset_out (s : State) : (s.hostReset).out = {} := rfl
@[simp] theorem State.hostReset_draws (s : State) : (s.hostReset).draws = s.draws + 1 := rfl

/-! ## State.putDec -/

@[simp] theorem State.putDec_x (s : State) (d : DecOutput) : (s.putDec d).x = s.x := rfl
@[simp] theorem State.putDec_bank (s : State) (d : DecOutput) : (s.putDec d).bank = s.bank := rfl
@[simp] theorem State.putDec_psr (s : State) (d : DecOutput) : (s.putDec d).psr = s.psr := rfl
@[simp] theorem State.putDec_slotF (s : State) (d : DecOutput) : (s.putDec d).slotF = s.slotF := rfl
@[simp] theorem State.putDec_slotD (s : State) (d : DecOutput) : (s.putDec d).slotD = s.slotD := rfl
@[simp] theorem State.putDec_slotX (s : State) (d : DecOutput) : (s.putDec d).slotX = s.slotX := rfl
@[simp] theorem State.putDec_mem (s : State) (d : DecOutput) : (s.putDec d).mem = s.mem := rfl
@[simp] theorem State.putDec_fault (s : State) (d : DecOutput) : (s.putDec d).fault = s.fault := rfl
@[simp] theorem State.putDec_params (s : State) (d : DecOutput) : (s.putDec d).params = s.params := rfl
@[simp] theorem State.putDec_options (s : State) (d : DecOutput) : (s.putDec d).options = s.options := rfl
@[simp] theorem State.putDec_requests (s : State) (d : DecOutput) : (s.putDec d).requests = s.requests := rfl
@[simp] theorem State.putDec_out (s : State) (d : DecOutput) : (s.putDec d).out = { s.out with dec := some d } := rfl
@[simp] theorem State.putDec_draws (s : State) (d : DecOutput) : (s.putDec d).draws = s.draws := rfl

/-! ## State.putDecoded -/

@[simp] theorem State.putDecoded_x (s : State) (I : DecodedInstruction) (c : Classification) (r : Rendered) : (s.putDecoded I c r).x = s.x := rfl
@[simp] theorem State.putDecoded_bank (s : State) (I : DecodedInstruction) (c : Classification) (r : Rendered) : (s.putDecoded I c r).bank = s.bank := rfl
@[simp] theorem State.putDecoded_psr (s : State) (I : DecodedInstruction) (c : Classification) (r : Rendered) : (s.putDecoded I c r).psr = s.psr := rfl
@[simp] theorem State.putDecoded_slotF (s : State) (I : DecodedInstruction) (c : Classification) (r : Rendered) : (s.putDecoded I c r).slotF = s.slotF := rfl
@[simp] theorem State.putDecoded_slotD (s : State) (I : DecodedInstruction) (c : Classification) (r : Rendered) : (s.putDecoded I c r).slotD = some { I with decoded := some c } := rfl
@[simp] theorem State.putDecoded_slotX (s : State) (I : DecodedInstruction) (c : Classification) (r : Rendered) : (s.putDecoded I c r).slotX = s.slotX := rfl
@[simp] theorem State.putDecoded_mem (s : State) (I : DecodedInstruction) (c : Classification) (r : Rendered) : (s.putDecoded I c r).mem = s.mem := rfl
@[simp] theorem State.putDecoded_fault (s : State) (I : DecodedInstruction) (c : Classification) (r : Rendered) : (s.putDecoded I c r).fault = s.fault := rfl
@[simp] theorem State.putDecoded_params (s : State) (I : DecodedInstruction) (c : Classification) (r : Rendered) : (s.putDecoded I c r).params = s.params := rfl
@[simp] theorem State.putDecoded_options (s : State) (I : DecodedInstruction) (c : Classification) (r : Rendered) : (s.putDecoded I c r).options = s.options := rfl
@[simp] theorem State.putDecoded_requests (s : State) (I : DecodedInstruction) (c : Classification) (r : Rendered) : (s.putDecoded I c r).requests = s.requests := rfl
@[simp] theorem State.putDecoded_out (s : State) (I : DecodedInstruction) (c : Classification) (r : Rendered) : (s.putDecoded I c r).out = { s.out with decoded := some (s.decodedOutput I c r) } := rfl
@[simp] theorem State.putDecoded_draws (s : State) (I : DecodedInstruction) (c : Classification) (r : Rendered) : (s.putDecoded I c r).draws = s.draws := rfl

/-! ## State.clearOut -/

@[simp] theorem State.clearOut_x (s : State) : (s.clearOut).x = s.x := rfl
@[simp] theorem State.clearOut_bank (s : State) : (s.clearOut).bank = s.bank := rfl
@[simp] theorem State.clearOut_psr (s : State) : (s.clearOut).psr = s.psr := rfl
@[simp] theorem State.clearOut_slotF (s : State) : (s.clearOut).slotF = s.slotF := rfl
@[simp] theorem State.clearOut_slotD (s : State) : (s.clearOut).slotD = s.slotD := rfl
@[simp] theorem State.clearOut_slotX (s : State) : (s.clearOut).slotX = s.slotX := rfl
@[simp] theorem State.clearOut_mem (s : State) : (s.clearOut).mem = s.mem := rfl
@[simp] theorem State.clearOut_fault (s : State) : (s.clearOut).fault = s.fault := rfl
@[simp] theorem State.clearOut_params (s : State) : (s.clearOut).params = s.params := rfl
@[simp] theorem State.clearOut_options (s : State) : (s.clearOut).options = s.options := rfl
@[simp] theorem State.clearOut_requests (s : State) : (s.clearOut).requests = s.requests := rfl
@[simp] theorem State.clearOut_out (s : State) : (s.clearOut).out = {} := rfl
@[simp] theorem State.clearOut_draws (s : State) : (s.clearOut).draws = s.draws := rfl

/-! ## State.shiftIn -/

@[simp] theorem State.shiftIn_x (s : State) (w : Word) : (s.shiftIn w).x = s.x.set 15 (s.pc + 4) := rfl
@[simp] theorem State.shiftIn_bank (s : State) (w : Word) : (s.shiftIn w).bank = s.bank := rfl
@[simp] theorem State.shiftIn_psr (s : State) (w : Word) : (s.shiftIn w).psr = s.psr := rfl
@[simp] theorem State.shiftIn_slotF (s : State) (w : Word) : (s.shiftIn w).slotF = some { address := s.pc, opcode := w, decoded := none } := rfl
@[simp] theorem State.shiftIn_slotD (s : State) (w : Word) : (s.shiftIn w).slotD = s.slotF := rfl
@[simp] theorem State.shiftIn_slotX (s : State) (w : Word) : (s.shiftIn w).slotX = s.slotD := rfl
@[simp] theorem State.shiftIn_mem (s : State) (w : Word) : (s.shiftIn w).mem = s.mem := rfl
@[simp] theorem State.shiftIn_fault (s : State) (w : Word) : (s.shiftIn w).fault = s.fault := rfl
@[simp] theorem State.shiftIn_params (s : State) (w : Word) : (s.shiftIn w).params = s.params := rfl
@[simp] theorem State.shiftIn_options (s : State) (w : Word) : (s.shiftIn w).options = s.options := rfl
@[simp] theorem State.shiftIn_requests (s : State) (w : Word) : (s.shiftIn w).requests = s.requests := rfl
@[simp] theorem State.shiftIn_out (s : State) (w : Word) : (s.shiftIn w).out = { s.out with fetched := some (s.pc, w) } := rfl
@[simp] theorem State.shiftIn_draws (s : State) (w : Word) : (s.shiftIn w).draws = s.draws := rfl

/-! ## State.serve -/

@[simp] theorem State.serve_x (s : State) (c : Command) : (s.serve c).x = s.x := rfl
@[simp] theorem State.serve_bank (s : State) (c : Command) : (s.serve c).bank = s.bank := rfl
@[simp] theorem State.serve_psr (s : State) (c : Command) : (s.serve c).psr = s.psr := rfl
@[simp] theorem State.serve_slotF (s : State) (c : Command) : (s.serve c).slotF = s.slotF := rfl
@[simp] theorem State.serve_slotD (s : State) (c : Command) : (s.serve c).slotD = s.slotD := rfl
@[simp] theorem State.serve_slotX (s : State) (c : Command) : (s.serve c).slotX = s.slotX := rfl
@[simp] theorem State.serve_mem (s : State) (c : Command) : (s.serve c).mem = (serveCommand s.mem c).1 := rfl
@[simp] theorem State.serve_fault (s : State) (c : Command) : (s.serve c).fault = s.fault := rfl
@[simp] theorem State.serve_params (s : State) (c : Command) : (s.serve c).params = s.params := rfl
@[simp] theorem State.serve_options (s : State) (c : Command) : (s.serve c).options = s.options := rfl
@[simp] theorem State.serve_requests (s : State) (c : Command) : (s.serve c).requests = s.requests := rfl
@[simp] theorem State.serve_out (s : State) (c : Command) : (s.serve c).out = { reply := some (serveCommand s.mem c).2 } := rfl
@[simp] theorem State.serve_draws (s : State) (c : Command) : (s.serve c).draws = s.draws := rfl

/-! ## State.placeFetched -/

@[simp] theorem State.placeFetched_x (s : State) (w : Word) : (s.placeFetched w).x = s.x.set 15 (probeAddress s + 4) := rfl
@[simp] theorem State.placeFetched_bank (s : State) (w : Word) : (s.placeFetched w).bank = s.bank := rfl
@[simp] theorem State.placeFetched_psr (s : State) (w : Word) : (s.placeFetched w).psr = s.psr := rfl
@[simp] theorem State.placeFetched_slotF (s : State) (w : Word) : (s.placeFetched w).slotF = some { address := probeAddress s, opcode := w, decoded := none } := rfl
@[simp] theorem State.placeFetched_slotD (s : State) (w : Word) : (s.placeFetched w).slotD = s.slotD := rfl
@[simp] theorem State.placeFetched_slotX (s : State) (w : Word) : (s.placeFetched w).slotX = none := rfl
@[simp] theorem State.placeFetched_mem (s : State) (w : Word) : (s.placeFetched w).mem = writeBytes s.mem (probeAddress s).toNat (bytesOfWord w) := rfl
@[simp] theorem State.placeFetched_fault (s : State) (w : Word) : (s.placeFetched w).fault = none := rfl
@[simp] theorem State.placeFetched_params (s : State) (w : Word) : (s.placeFetched w).params = s.params := rfl
@[simp] theorem State.placeFetched_options (s : State) (w : Word) : (s.placeFetched w).options = s.options := rfl
@[simp] theorem State.placeFetched_requests (s : State) (w : Word) : (s.placeFetched w).requests = [] := rfl
@[simp] theorem State.placeFetched_out (s : State) (w : Word) : (s.placeFetched w).out = s.out := rfl
@[simp] theorem State.placeFetched_draws (s : State) (w : Word) : (s.placeFetched w).draws = s.draws := rfl

/-! ## The pc after the updates that keep or move it -/

@[simp] theorem State.latch_pc (s : State) (e : Error) : (s.latch e).pc = s.pc := rfl
@[simp] theorem State.putDec_pc (s : State) (d : DecOutput) : (s.putDec d).pc = s.pc := rfl
@[simp] theorem State.putDecoded_pc (s : State) (I : DecodedInstruction) (c : Classification) (r : Rendered) :
    (s.putDecoded I c r).pc = s.pc := rfl
@[simp] theorem State.clearOut_pc (s : State) : s.clearOut.pc = s.pc := rfl
@[simp] theorem State.serve_pc (s : State) (c : Command) : (s.serve c).pc = s.pc := rfl

@[simp] theorem State.shiftIn_pc (s : State) (w : Word) : (s.shiftIn w).pc = s.pc + 4 := by
  simp [State.pc, State.readReg]

theorem State.shiftIn_readReg (s : State) (w : Word) (i : Fin 16) (h : i ≠ 15) :
    (s.shiftIn w).readReg i = s.readReg i := State.readReg_writeReg_other s 15 i (s.pc + 4) h

@[simp] theorem State.hostReset_pc (s : State) : s.hostReset.pc = 0 := by simp [State.pc, State.readReg]

@[simp] theorem State.hostReset_readReg (s : State) (i : Fin 16) : s.hostReset.readReg i = 0 := by
  simp [State.readReg]

@[simp] theorem State.placeFetched_pc (s : State) (w : Word) : (s.placeFetched w).pc = probeAddress s + 4 := by
  simp [State.pc, State.readReg]

end Sys2Proof.Machine
end

