-- ==== Sys2Proof/Laws/DecodeStage.lean ====
section
/-! SUPPORT. Everything the decode-and-render sub-step can do, said once: an instruction is `decodeAs` of its
classification, and `decodeAs` has one equation per case and one inversion lemma. -/

namespace Sys2Proof.Machine

/-- Every arm of `exec` is the shared sub-step on the instruction's own classification. -/
theorem exec_eq_decodeAs (i : Instr) (s : State) : exec i s = decodeAs i.classification s := by
  cases i <;> rfl

/-! ## One equation per case of `decodeAs` -/

theorem decodeAs_of_empty {c : Classification} {s : State} (h : s.slotD = none) : decodeAs c s = .next s := by
  simp only [decodeAs, h]

theorem decodeAs_of_ambiguous {c : Classification} {s : State} {I : DecodedInstruction} (h : s.slotD = some I)
    (ha : s.ambiguous I.opcode = true) :
    decodeAs c s = .next
      ((s.putDec (ambiguousDecOutput I.opcode)).latch (.decodeAmbiguity I.opcode (matchVec I.opcode))) := by
  simp only [decodeAs, h, ha, if_true]

theorem decodeAs_of_rendered {c : Classification} {s : State} {I : DecodedInstruction} {r : Rendered}
    (h : s.slotD = some I) (ha : s.ambiguous I.opcode = false) (hr : render s.options I.address I.opcode c = .ok r) :
    decodeAs c s = .next ((s.putDec (standingDecOutput I.opcode c)).putDecoded I c r) := by
  simp only [decodeAs, h, ha, hr]
  rfl

theorem decodeAs_of_renderError {c : Classification} {s : State} {I : DecodedInstruction} {e : Error}
    (h : s.slotD = some I) (ha : s.ambiguous I.opcode = false) (hr : render s.options I.address I.opcode c = .error e) :
    decodeAs c s = .next ((s.putDec (standingDecOutput I.opcode c)).latch e) := by
  simp only [decodeAs, h, ha, hr]
  rfl

/-- What `decodeAs` can do: nothing on an empty slot, one of the two errors, or the rendered instruction. -/
theorem decodeAs_cases (c : Classification) (s : State) :
    (s.slotD = none ∧ decodeAs c s = .next s)
    ∨ ∃ I, s.slotD = some I ∧
      ((s.ambiguous I.opcode = true ∧ decodeAs c s = .next
          ((s.putDec (ambiguousDecOutput I.opcode)).latch (.decodeAmbiguity I.opcode (matchVec I.opcode))))
      ∨ (s.ambiguous I.opcode = false ∧ ∃ r, render s.options I.address I.opcode c = .ok r ∧
          decodeAs c s = .next ((s.putDec (standingDecOutput I.opcode c)).putDecoded I c r))
      ∨ (s.ambiguous I.opcode = false ∧ ∃ e, render s.options I.address I.opcode c = .error e ∧
          decodeAs c s = .next ((s.putDec (standingDecOutput I.opcode c)).latch e))) := by
  cases h : s.slotD with
  | none => exact .inl ⟨rfl, decodeAs_of_empty h⟩
  | some I =>
    refine .inr ⟨I, rfl, ?_⟩
    cases ha : s.ambiguous I.opcode with
    | true => exact .inl ⟨rfl, decodeAs_of_ambiguous h ha⟩
    | false =>
      cases hr : render s.options I.address I.opcode c with
      | ok r => exact .inr (.inl ⟨rfl, r, rfl, decodeAs_of_rendered h ha hr⟩)
      | error e => exact .inr (.inr ⟨rfl, e, rfl, decodeAs_of_renderError h ha hr⟩)

/-- `decodeAs` always answers a next state; the shared frame of every instruction. -/
theorem decodeAs_frame (c : Classification) (s : State) :
    ∃ t, decodeAs c s = .next t ∧ t.x = s.x ∧ t.bank = s.bank ∧ t.psr = s.psr ∧ t.mem = s.mem ∧ t.slotF = s.slotF
      ∧ t.slotX = s.slotX ∧ t.params = s.params ∧ t.options = s.options ∧ t.requests = s.requests ∧ t.draws = s.draws
      ∧ t.slotD.map (fun I => (I.address, I.opcode)) = s.slotD.map (fun I => (I.address, I.opcode))
      ∧ t.out.fetched = s.out.fetched ∧ t.out.executed = s.out.executed := by
  obtain ⟨_, h⟩ | ⟨I, hI, ⟨_, h⟩ | ⟨_, r, _, h⟩ | ⟨_, e, _, h⟩⟩ := decodeAs_cases c s <;>
    exact ⟨_, h, by simp [*]⟩

/-! ## Rendering -/

/-- The only error of a body is the hole of the multiply table (R113, R164). -/
theorem body_error {a : Word} {c : Classification} {e : Error} (h : body a c = .error e) :
    e = .unknownMnemonic .multiply 3
      ∧ ((∃ f, c = .multiply f ∧ f.op = 3) ∨ ∃ f, c = .multiplyLong f ∧ f.op = 3) := by
  have key : ∀ op : BitVec 3, mulName op = none → op = 3 := by decide
  have hole : ∀ op : BitVec 3, mulBody op = .error e → e = .unknownMnemonic .multiply 3 ∧ op = 3 := by
    intro op ho
    cases hn : mulName op with
    | none => rw [key op hn] at ho ⊢; exact ⟨(Except.error.inj ho).symm, rfl⟩
    | some n => simp only [mulBody, hn] at ho; cases ho
  cases c <;> simp only [body] at h <;> try exact absurd h (by simp)
  · rename_i f; exact ⟨(hole f.op h).1, .inl ⟨f, rfl, (hole f.op h).2⟩⟩
  · rename_i f; exact ⟨(hole f.op h).1, .inr ⟨f, rfl, (hole f.op h).2⟩⟩

theorem render_of_body {o : Config.FormatOptions} {a w : Word} {c : Classification} {m : Mnemonic} {r : RenderedOperand}
    (h : body a c = .ok (m, r)) :
    render o a w c = .ok ⟨shown o.showAddress a, shown o.showOpcode w, m, r⟩ := by
  simp only [render, h]

theorem render_of_body_error {o : Config.FormatOptions} {a w : Word} {c : Classification} {e : Error}
    (h : body a c = .error e) : render o a w c = .error e := by
  simp only [render, h]

theorem render_error {o : Config.FormatOptions} {a w : Word} {c : Classification} {e : Error}
    (h : render o a w c = .error e) : body a c = .error e := by
  unfold render at h
  cases hb : body a c with
  | ok p => rw [hb] at h; simp at h
  | error e' => rw [hb] at h; simpa using h

/-- An optional hexadecimal prefix, written out (R111). -/
theorem prefixText_shown (b : Bool) (w : Word) (sep : String) :
    prefixText (shown b w) sep = if b then hex8 w ++ sep else "" := by
  cases b <;> rfl

end Sys2Proof.Machine
end

