-- ==== Sys2Proof/Laws/Cycle.lean ====
section
/-! SUPPORT. Everything a cycle and an operation can do, said once per stage. -/

namespace Sys2Proof.Machine

/-! ## Shift and fetch (R151, R156) -/

theorem shiftAndFetch_of_occupied {s : State} {I : DecodedInstruction} (h : s.slotX = some I) :
    shiftAndFetch s = .ok s := by
  simp only [shiftAndFetch, h]

theorem shiftAndFetch_of_fetched {s : State} {w : Word} (h : s.slotX = none) (hw : read32 s.mem s.pc = .ok w) :
    shiftAndFetch s = .ok (s.shiftIn w) := by
  simp only [shiftAndFetch, h, hw]

theorem shiftAndFetch_of_error {s : State} {e : Error} (h : s.slotX = none) (he : read32 s.mem s.pc = .error e) :
    shiftAndFetch s = .error e := by
  simp only [shiftAndFetch, h, he]

/-! ## Decode and render, execute and release (R152, R153, R157) -/

/-- The decode sub-step is `decodeAs` of some classification, or nothing on an empty slot. -/
theorem decodeAndRender_eq (s : State) :
    (s.slotD = none ∧ decodeAndRender s = .next s)
    ∨ ∃ I, s.slotD = some I ∧
      ((∃ i, decodeWord I.opcode = some i ∧ decodeAndRender s = decodeAs i.classification s)
      ∨ (decodeWord I.opcode = none ∧ decodeAndRender s = decodeAs .unknown s)) := by
  cases h : s.slotD with
  | none => exact .inl ⟨rfl, by simp only [decodeAndRender, h]⟩
  | some I =>
    refine .inr ⟨I, rfl, ?_⟩
    cases hi : decodeWord I.opcode with
    | none => exact .inr ⟨rfl, by simp only [decodeAndRender, h, hi, decodeUnknown]⟩
    | some i => exact .inl ⟨i, rfl, by simp only [decodeAndRender, h, hi, exec_eq_decodeAs]⟩

@[simp] theorem executeAndRelease_x (s : State) : (executeAndRelease s).x = s.x := by
  unfold executeAndRelease; cases s.slotX <;> rfl
@[simp] theorem executeAndRelease_bank (s : State) : (executeAndRelease s).bank = s.bank := by
  unfold executeAndRelease; cases s.slotX <;> rfl
@[simp] theorem executeAndRelease_psr (s : State) : (executeAndRelease s).psr = s.psr := by
  unfold executeAndRelease; cases s.slotX <;> rfl
@[simp] theorem executeAndRelease_slotF (s : State) : (executeAndRelease s).slotF = s.slotF := by
  unfold executeAndRelease; cases s.slotX <;> rfl
@[simp] theorem executeAndRelease_slotD (s : State) : (executeAndRelease s).slotD = s.slotD := by
  unfold executeAndRelease; cases s.slotX <;> rfl
@[simp] theorem executeAndRelease_slotX (s : State) : (executeAndRelease s).slotX = none := by
  unfold executeAndRelease; cases h : s.slotX <;> simp [h]
@[simp] theorem executeAndRelease_mem (s : State) : (executeAndRelease s).mem = s.mem := by
  unfold executeAndRelease; cases s.slotX <;> rfl
@[simp] theorem executeAndRelease_fault (s : State) : (executeAndRelease s).fault = s.fault := by
  unfold executeAndRelease; cases s.slotX <;> rfl
@[simp] theorem executeAndRelease_params (s : State) : (executeAndRelease s).params = s.params := by
  unfold executeAndRelease; cases s.slotX <;> rfl
@[simp] theorem executeAndRelease_options (s : State) : (executeAndRelease s).options = s.options := by
  unfold executeAndRelease; cases s.slotX <;> rfl
@[simp] theorem executeAndRelease_requests (s : State) : (executeAndRelease s).requests = s.requests := by
  unfold executeAndRelease; cases s.slotX <;> rfl
@[simp] theorem executeAndRelease_draws (s : State) : (executeAndRelease s).draws = s.draws := by
  unfold executeAndRelease; cases s.slotX <;> rfl
@[simp] theorem executeAndRelease_fetched (s : State) : (executeAndRelease s).out.fetched = s.out.fetched := by
  unfold executeAndRelease; cases s.slotX <;> rfl
@[simp] theorem executeAndRelease_dec (s : State) : (executeAndRelease s).out.dec = s.out.dec := by
  unfold executeAndRelease; cases s.slotX <;> rfl
@[simp] theorem executeAndRelease_decoded (s : State) : (executeAndRelease s).out.decoded = s.out.decoded := by
  unfold executeAndRelease; cases s.slotX <;> rfl
@[simp] theorem executeAndRelease_pc (s : State) : (executeAndRelease s).pc = s.pc :=
  State.pc_of_x (executeAndRelease_x s)

/-- The instruction of slot X is what the port `executed` carries after the release (R153). -/
theorem executeAndRelease_executed (s : State) (h : s.out.executed = none) :
    (executeAndRelease s).out.executed = s.slotX := by
  unfold executeAndRelease; cases hx : s.slotX <;> simp [h]

theorem finishCycle_of_clear {s : State} (h : s.fault = none) : finishCycle (.next s) = .next (executeAndRelease s) := by
  simp [finishCycle, h]

theorem finishCycle_of_latched {s : State} {e : Error} (h : s.fault = some e) : finishCycle (.next s) = .next s := by
  simp [finishCycle, h]

/-! ## The cycle and the operation -/

theorem cycle_of_latched {s : State} {e : Error} (h : s.fault = some e) : cycle s = .fault (.latched e) := by
  simp only [cycle, h]

theorem cycle_of_fetchError {s : State} {e : Error} (h : s.fault = none) (hx : s.slotX = none)
    (he : read32 s.mem s.pc = .error e) : cycle s = .next (s.clearOut.latch e) := by
  have : shiftAndFetch s.clearOut = .error e := shiftAndFetch_of_error hx he
  simp only [cycle, h, this]

theorem cycle_of_fetched {s : State} {w : Word} (h : s.fault = none) (hx : s.slotX = none)
    (hw : read32 s.mem s.pc = .ok w) : cycle s = finishCycle (decodeAndRender (s.clearOut.shiftIn w)) := by
  have : shiftAndFetch s.clearOut = .ok (s.clearOut.shiftIn w) := shiftAndFetch_of_fetched hx hw
  simp only [cycle, h, this]

theorem cycle_of_occupied {s : State} {I : DecodedInstruction} (h : s.fault = none) (hx : s.slotX = some I) :
    cycle s = finishCycle (decodeAndRender s.clearOut) := by
  have : shiftAndFetch s.clearOut = .ok s.clearOut := shiftAndFetch_of_occupied hx
  simp only [cycle, h, this]

/-- The four ways a cycle goes. -/
theorem cycle_cases (s : State) :
    (∃ e, s.fault = some e ∧ cycle s = .fault (.latched e))
    ∨ (s.fault = none ∧ s.slotX = none ∧ ∃ e, read32 s.mem s.pc = .error e ∧ cycle s = .next (s.clearOut.latch e))
    ∨ (s.fault = none ∧ s.slotX = none ∧ ∃ w, read32 s.mem s.pc = .ok w ∧
        cycle s = finishCycle (decodeAndRender (s.clearOut.shiftIn w)))
    ∨ (s.fault = none ∧ ∃ I, s.slotX = some I ∧ cycle s = finishCycle (decodeAndRender s.clearOut)) := by
  cases hf : s.fault with
  | some e => exact .inl ⟨e, rfl, cycle_of_latched hf⟩
  | none =>
    cases hx : s.slotX with
    | some I => exact .inr (.inr (.inr ⟨rfl, I, rfl, cycle_of_occupied hf hx⟩))
    | none =>
      cases hr : read32 s.mem s.pc with
      | error e => exact .inr (.inl ⟨rfl, rfl, e, rfl, cycle_of_fetchError hf hx hr⟩)
      | ok w => exact .inr (.inr (.inl ⟨rfl, rfl, w, rfl, cycle_of_fetched hf hx hr⟩))

/-- What the decode sub-step and the end of the cycle make of a state: the slots, the latch and the
ports aside, nothing changes; and either no error is latched and X is released, or one is and nothing is released. -/
theorem finish_decode_frame (s : State) (he : s.out.executed = none) :
    ∃ t, finishCycle (decodeAndRender s) = .next t ∧ t.x = s.x ∧ t.bank = s.bank ∧ t.psr = s.psr ∧ t.mem = s.mem
      ∧ t.slotF = s.slotF ∧ t.params = s.params ∧ t.options = s.options ∧ t.requests = s.requests
      ∧ t.draws = s.draws ∧ t.out.fetched = s.out.fetched
      ∧ t.slotD.map (fun I => (I.address, I.opcode)) = s.slotD.map (fun I => (I.address, I.opcode))
      ∧ ((t.fault = none ∧ t.slotX = none ∧ t.out.executed = s.slotX)
        ∨ (t.fault.isSome ∧ t.slotX = s.slotX ∧ t.out.executed = none)) := by
  have hd : ∃ t, decodeAndRender s = .next t ∧ t.x = s.x ∧ t.bank = s.bank ∧ t.psr = s.psr ∧ t.mem = s.mem
      ∧ t.slotF = s.slotF ∧ t.slotX = s.slotX ∧ t.params = s.params ∧ t.options = s.options ∧ t.requests = s.requests
      ∧ t.draws = s.draws
      ∧ t.slotD.map (fun I => (I.address, I.opcode)) = s.slotD.map (fun I => (I.address, I.opcode))
      ∧ t.out.fetched = s.out.fetched ∧ t.out.executed = s.out.executed := by
    obtain ⟨hn, h⟩ | ⟨I, _, ⟨i, _, h⟩ | ⟨_, h⟩⟩ := decodeAndRender_eq s
    · exact ⟨s, h, by simp⟩
    · rw [h]; exact decodeAs_frame _ s
    · rw [h]; exact decodeAs_frame _ s
  obtain ⟨t, ht, h1, h2, h3, h4, h5, h6, h7, h8, h9, h10, h11, h12, h13⟩ := hd
  cases hfe : t.fault with
  | none =>
    refine ⟨executeAndRelease t, by rw [ht, finishCycle_of_clear hfe], ?_⟩
    simp [*, executeAndRelease_executed t (h13.trans he)]
  | some e =>
    refine ⟨t, by rw [ht, finishCycle_of_latched hfe], ?_⟩
    simp [*]

/-- The frame of a cycle: the pc advances by 4 if and only if a word is fetched, and no other register, no bank, no status
register and no byte of memory changes. -/
theorem cycle_frame {s t : State} (h : cycle s = .next t) :
    (∀ r, r ≠ 15 → t.readReg r = s.readReg r) ∧ t.bank = s.bank ∧ t.psr = s.psr ∧ t.mem = s.mem
    ∧ t.params = s.params ∧ t.options = s.options ∧ t.requests = s.requests ∧ t.draws = s.draws
    ∧ ((t.out.fetched.isSome ∧ t.pc = s.pc + 4) ∨ (t.out.fetched = none ∧ t.pc = s.pc)) := by
  obtain ⟨e, _, hc⟩ | ⟨_, _, e, _, hc⟩ | ⟨_, _, w, _, hc⟩ | ⟨_, I, _, hc⟩ := cycle_cases s <;> rw [hc] at h
  · cases h
  · cases h; simp [State.readReg]
  · obtain ⟨t', ht, h1, h2, h3, h4, _, h6, h7, h8, h9, h10, _⟩ := finish_decode_frame (s.clearOut.shiftIn w) rfl
    rw [ht] at h; cases h
    refine ⟨fun r hr => ?_, h2, h3, h4, h6, h7, h8, h9, .inl ⟨by simp [h10], ?_⟩⟩
    · rw [State.readReg_of_x h1, State.shiftIn_readReg _ _ _ hr]; rfl
    · rw [State.pc_of_x h1]; simp
  · obtain ⟨t', ht, h1, h2, h3, h4, _, h6, h7, h8, h9, h10, _⟩ := finish_decode_frame s.clearOut rfl
    rw [ht] at h; cases h
    refine ⟨fun r _ => ?_, h2, h3, h4, h6, h7, h8, h9, .inr ⟨h10, ?_⟩⟩
    · rw [State.readReg_of_x h1]; rfl
    · rw [State.pc_of_x h1]; simp

theorem step_of_request {s : State} {r : Request} {rest : List Request} (h : s.requests = r :: rest) :
    step s = serveRequest { s with requests := rest } r := by
  simp only [step, operation, h]

theorem step_of_noRequest {s : State} (h : s.requests = []) : step s = cycle s := by
  simp only [step, operation, h]

/-- The four ways a step goes: a cycle unasked, a reset, a command, or a cycle asked for. -/
theorem step_cases (s : State) :
    (s.requests = [] ∧ step s = cycle s)
    ∨ ∃ rest, (s.requests = .reset :: rest ∧ step s = .next ({ s with requests := rest } : State).hostReset)
      ∨ (∃ c, s.requests = .command c :: rest ∧ step s = .next (({ s with requests := rest } : State).serve c))
      ∨ ∃ o, s.requests = .cycle o :: rest ∧ step s = cycle { s with requests := rest, options := o } := by
  cases h : s.requests with
  | nil => exact .inl ⟨rfl, step_of_noRequest h⟩
  | cons r rest =>
    refine .inr ⟨rest, ?_⟩
    cases r with
    | reset => exact .inl ⟨rfl, step_of_request h⟩
    | command c => exact .inr (.inl ⟨c, rfl, step_of_request h⟩)
    | cycle o => exact .inr (.inr ⟨o, rfl, step_of_request h⟩)

end Sys2Proof.Machine
end

