-- ==== Sys2Proof/Laws/Decode.lean ====
section
/-! SUPPORT. The decoder bit by bit: what a field's bits are, what it takes for each filter to match (R61, R63, R73), the
classification as a chain of tests, and that a row and its classification determine each other. -/

namespace Sys2Proof

/-! ## Fields and their bits -/

/-- A field of `bits` as a number (R75). -/
theorem bits_toNat (w : Word) (hi lo : Nat) (h : hi - lo + 1 < 32) :
    (bits w hi lo).toNat = w.toNat / 2 ^ lo % 2 ^ (hi - lo + 1) := by
  have h1 : ((1#32 <<< (hi - lo + 1)) - 1#32).toNat = 2 ^ (hi - lo + 1) - 1 := by
    have hp : (2:Nat) ^ (hi - lo + 1) < 2 ^ 32 := Nat.pow_lt_pow_right (by decide) h
    have hp' : 1 ≤ (2:Nat) ^ (hi - lo + 1) := Nat.one_le_two_pow
    simp only [BitVec.toNat_sub, BitVec.toNat_shiftLeft, Nat.shiftLeft_eq, BitVec.toNat_ofNat]
    omega
  simp only [bits, BitVec.toNat_and, h1, BitVec.toNat_ushiftRight, Nat.shiftRight_eq_div_pow,
    Nat.and_two_pow_sub_one_eq_mod]

/-- Bit `i` of a field is bit `lo + i` of the word. -/
theorem bits_testBit (w : Word) (hi lo i : Nat) (h : hi - lo + 1 < 32) :
    (bits w hi lo).getLsbD i = (decide (i < hi - lo + 1) && w.getLsbD (lo + i)) := by
  rw [BitVec.getLsbD, bits_toNat w hi lo h, Nat.testBit_mod_two_pow, Nat.testBit_div_two_pow, BitVec.getLsbD, Nat.add_comm lo i]

/-- A field equals a constant iff each of its bits does. -/
theorem bits_beq (w : Word) (hi lo : Nat) (c : Word) (h : hi - lo + 1 < 32) (hc : c.toNat < 2 ^ (hi - lo + 1)) :
    (bits w hi lo == c) = (List.range (hi - lo + 1)).all fun i => w.getLsbD (lo + i) == c.getLsbD i := by
  rw [Bool.eq_iff_iff]
  simp only [beq_iff_eq, List.all_eq_true, List.mem_range]
  constructor
  · rintro rfl i hi'
    rw [bits_testBit w hi lo i h]; simp [hi']
  · intro H
    apply BitVec.eq_of_getLsbD_eq
    intro i _
    rw [bits_testBit w hi lo i h]
    by_cases hi' : i < hi - lo + 1
    · simp [hi', H i hi']
    · simp only [hi', decide_false, Bool.false_and]
      rw [BitVec.getLsbD, Nat.testBit_lt_two_pow]
      exact hc.trans_le (Nat.pow_le_pow_right (by decide) (by omega))


theorem bits_eq_setWidth (w : Word) (hi lo : Nat) (h : hi - lo + 1 < 32) :
    bits w hi lo = (w.extractLsb' lo (hi - lo + 1)).setWidth 32 := by
  apply BitVec.eq_of_toNat_eq
  rw [bits_toNat w hi lo h]
  simp only [BitVec.toNat_setWidth, BitVec.extractLsb'_toNat, Nat.shiftRight_eq_div_pow]
  rw [Nat.mod_eq_of_lt (b := 2 ^ 32)]
  exact (Nat.mod_lt _ (by positivity)).trans (Nat.pow_lt_pow_right (by decide) h)

theorem extractLsb'_eq_iff (w : Word) (lo n : Nat) (c : BitVec n) :
    w.extractLsb' lo n = c ↔ ((List.range n).all fun i => w.getLsbD (lo + i) == c.getLsbD i) = true := by
  simp only [List.all_eq_true, List.mem_range, beq_iff_eq]
  constructor
  · rintro rfl i hi; simp [hi]
  · intro H; apply BitVec.eq_of_getLsbD_eq; intro i hi
    rw [← H i hi]; simp [hi]

/-- The compare class is `opcode[24:23] = 0b10` (R73). -/
theorem compareClass_iff (w : Word) : (0x8 ≤ bits w 24 21 ∧ bits w 24 21 ≤ 0xB) ↔ (w[24] = true ∧ w[23] = false) := by
  have key : ∀ b : BitVec 4, (0x8 ≤ b.setWidth 32 ∧ b.setWidth 32 ≤ 0xB) ↔ (b.getLsbD 3 = true ∧ b.getLsbD 2 = false) := by decide
  rw [bits_eq_setWidth w 24 21 (by decide), key]
  simp

/-- The validity refinement of R73 bit by bit. -/
theorem aluValid_iff (w : Word) : aluValid w = true ↔ (w[24] = true → w[23] = false → w[20] = true ∧
      (w[12] = false ∧ w[13] = false ∧ w[14] = false ∧ w[15] = false ∨
        w[12] = true ∧ w[13] = true ∧ w[14] = true ∧ w[15] = true)) := by
  simp only [aluValid, compareClass_iff]
  simp [bits_beq, List.range_succ, BitVec.getLsbD_ofNat, Nat.testBit, Nat.shiftRight_eq_div_pow]
  by_cases w[24] <;> by_cases w[23] <;> simp [*]

/-! ## The filters -/

theorem filterAluRegShiftImm_validMatch (w : Word) : filterAluRegShiftImm.validMatch w = true ↔
    w[27] = false ∧ w[26] = false ∧ w[25] = false ∧ w[4] = false ∧ aluValid w = true := by
  simp [Filter.validMatch, Filter.candidate, filterAluRegShiftImm, ControlBits.holds, Kind.needsAluValid,
    bits_beq, List.range_succ,
    BitVec.getLsbD_ofNat, Nat.testBit, Nat.shiftRight_eq_div_pow]
  tauto

theorem filterAluRegShiftReg_validMatch (w : Word) : filterAluRegShiftReg.validMatch w = true ↔
    w[27] = false ∧ w[26] = false ∧ w[25] = false ∧ w[7] = false ∧ w[4] = true ∧ aluValid w = true := by
  simp [Filter.validMatch, Filter.candidate, filterAluRegShiftReg, ControlBits.holds, Kind.needsAluValid,
    bits_beq, List.range_succ,
    BitVec.getLsbD_ofNat, Nat.testBit, Nat.shiftRight_eq_div_pow]
  tauto

theorem filterAluImm_validMatch (w : Word) : filterAluImm.validMatch w = true ↔
    w[27] = false ∧ w[26] = false ∧ w[25] = true ∧ aluValid w = true := by
  simp [Filter.validMatch, Filter.candidate, filterAluImm, ControlBits.holds, Kind.needsAluValid, bits_beq,
    List.range_succ,
    BitVec.getLsbD_ofNat, Nat.testBit, Nat.shiftRight_eq_div_pow]
  tauto

theorem filterPsrImm_validMatch (w : Word) : filterPsrImm.validMatch w = true ↔
    w[27] = false ∧ w[26] = false ∧ w[25] = true ∧ w[24] = true ∧ w[23] = false ∧ w[21] = true ∧ w[20] = false := by
  simp [Filter.validMatch, Filter.candidate, filterPsrImm, ControlBits.holds, Kind.needsAluValid, bits_beq,
    List.range_succ,
    BitVec.getLsbD_ofNat, Nat.testBit, Nat.shiftRight_eq_div_pow]
  tauto

theorem filterPsrReg_validMatch (w : Word) : filterPsrReg.validMatch w = true ↔
    w[27] = false ∧ w[26] = false ∧ w[25] = false ∧ w[24] = true ∧ w[23] = false ∧ w[20] = false ∧ w[11] = false ∧
    w[10] = false ∧ w[9] = false ∧ w[8] = false ∧ w[7] = false ∧ w[6] = false ∧ w[5] = false ∧ w[4] = false := by
  simp [Filter.validMatch, Filter.candidate, filterPsrReg, ControlBits.holds, Kind.needsAluValid, bits_beq,
    List.range_succ,
    BitVec.getLsbD_ofNat, Nat.testBit, Nat.shiftRight_eq_div_pow]
  tauto

theorem filterBranchExchange_validMatch (w : Word) : filterBranchExchange.validMatch w = true ↔
    w[27] = false ∧ w[26] = false ∧ w[25] = false ∧ w[24] = true ∧ w[23] = false ∧ w[22] = false ∧ w[21] = true ∧
    w[20] = false ∧ w[19] = true ∧ w[18] = true ∧ w[17] = true ∧ w[16] = true ∧ w[15] = true ∧ w[14] = true ∧
    w[13] = true ∧ w[12] = true ∧ w[11] = true ∧ w[10] = true ∧ w[9] = true ∧ w[8] = true ∧ w[7] = false ∧ w[6] =
    false ∧ w[4] = true := by
  simp [Filter.validMatch, Filter.candidate, filterBranchExchange, ControlBits.holds, Kind.needsAluValid,
    bits_beq, List.range_succ,
    BitVec.getLsbD_ofNat, Nat.testBit, Nat.shiftRight_eq_div_pow]
  tauto

theorem filterMultiply_validMatch (w : Word) : filterMultiply.validMatch w = true ↔
    w[27] = false ∧ w[26] = false ∧ w[25] = false ∧ w[24] = false ∧ w[23] = false ∧ w[7] = true ∧ w[6] = false ∧
    w[5] = false ∧ w[4] = true := by
  simp [Filter.validMatch, Filter.candidate, filterMultiply, ControlBits.holds, Kind.needsAluValid, bits_beq,
    List.range_succ,
    BitVec.getLsbD_ofNat, Nat.testBit, Nat.shiftRight_eq_div_pow]
  tauto

theorem filterMultiplyLong_validMatch (w : Word) : filterMultiplyLong.validMatch w = true ↔
    w[27] = false ∧ w[26] = false ∧ w[25] = false ∧ w[24] = false ∧ w[23] = true ∧ w[7] = true ∧ w[6] = false ∧
    w[5] = false ∧ w[4] = true := by
  simp [Filter.validMatch, Filter.candidate, filterMultiplyLong, ControlBits.holds, Kind.needsAluValid, bits_beq,
    List.range_succ,
    BitVec.getLsbD_ofNat, Nat.testBit, Nat.shiftRight_eq_div_pow]
  tauto

theorem filterSwap_validMatch (w : Word) : filterSwap.validMatch w = true ↔
    w[27] = false ∧ w[26] = false ∧ w[25] = false ∧ w[24] = true ∧ w[23] = false ∧ w[21] = false ∧ w[20] = false ∧
    w[11] = false ∧ w[10] = false ∧ w[9] = false ∧ w[8] = false ∧ w[7] = true ∧ w[6] = false ∧ w[5] = false ∧ w[4]
    = true := by
  simp [Filter.validMatch, Filter.candidate, filterSwap, ControlBits.holds, Kind.needsAluValid, bits_beq,
    List.range_succ,
    BitVec.getLsbD_ofNat, Nat.testBit, Nat.shiftRight_eq_div_pow]
  tauto

theorem filterHalfwordReg_validMatch (w : Word) : filterHalfwordReg.validMatch w = true ↔
    w[27] = false ∧ w[26] = false ∧ w[25] = false ∧ w[22] = false ∧ w[11] = false ∧ w[10] = false ∧ w[9] = false ∧
    w[8] = false ∧ w[7] = true ∧ w[4] = true := by
  simp [Filter.validMatch, Filter.candidate, filterHalfwordReg, ControlBits.holds, Kind.needsAluValid, bits_beq,
    List.range_succ,
    BitVec.getLsbD_ofNat, Nat.testBit, Nat.shiftRight_eq_div_pow]
  tauto

theorem filterHalfwordImm_validMatch (w : Word) : filterHalfwordImm.validMatch w = true ↔
    w[27] = false ∧ w[26] = false ∧ w[25] = false ∧ w[22] = true ∧ w[7] = true ∧ w[4] = true := by
  simp [Filter.validMatch, Filter.candidate, filterHalfwordImm, ControlBits.holds, Kind.needsAluValid, bits_beq,
    List.range_succ,
    BitVec.getLsbD_ofNat, Nat.testBit, Nat.shiftRight_eq_div_pow]
  tauto

theorem filterTransferReg_validMatch (w : Word) : filterTransferReg.validMatch w = true ↔
    w[27] = false ∧ w[26] = true ∧ w[25] = true ∧ w[4] = false := by
  simp [Filter.validMatch, Filter.candidate, filterTransferReg, ControlBits.holds, Kind.needsAluValid, bits_beq,
    List.range_succ,
    BitVec.getLsbD_ofNat, Nat.testBit, Nat.shiftRight_eq_div_pow]
  tauto

theorem filterTransferImm_validMatch (w : Word) : filterTransferImm.validMatch w = true ↔
    w[27] = false ∧ w[26] = true ∧ w[25] = false := by
  simp [Filter.validMatch, Filter.candidate, filterTransferImm, ControlBits.holds, Kind.needsAluValid, bits_beq,
    List.range_succ,
    BitVec.getLsbD_ofNat, Nat.testBit, Nat.shiftRight_eq_div_pow]
  tauto

theorem filterUndefined_validMatch (w : Word) : filterUndefined.validMatch w = true ↔
    w[27] = false ∧ w[26] = true ∧ w[25] = true ∧ w[4] = true := by
  simp [Filter.validMatch, Filter.candidate, filterUndefined, ControlBits.holds, Kind.needsAluValid, bits_beq,
    List.range_succ,
    BitVec.getLsbD_ofNat, Nat.testBit, Nat.shiftRight_eq_div_pow]
  tauto

theorem filterBlockTransfer_validMatch (w : Word) : filterBlockTransfer.validMatch w = true ↔
    w[27] = true ∧ w[26] = false ∧ w[25] = false := by
  simp [Filter.validMatch, Filter.candidate, filterBlockTransfer, ControlBits.holds, Kind.needsAluValid, bits_beq,
    List.range_succ,
    BitVec.getLsbD_ofNat, Nat.testBit, Nat.shiftRight_eq_div_pow]
  tauto

theorem filterBranch_validMatch (w : Word) : filterBranch.validMatch w = true ↔
    w[27] = true ∧ w[26] = false ∧ w[25] = true := by
  simp [Filter.validMatch, Filter.candidate, filterBranch, ControlBits.holds, Kind.needsAluValid, bits_beq,
    List.range_succ,
    BitVec.getLsbD_ofNat, Nat.testBit, Nat.shiftRight_eq_div_pow]
  tauto

theorem filterCoprocDataTransfer_validMatch (w : Word) : filterCoprocDataTransfer.validMatch w = true ↔
    w[27] = true ∧ w[26] = true ∧ w[25] = false := by
  simp [Filter.validMatch, Filter.candidate, filterCoprocDataTransfer, ControlBits.holds, Kind.needsAluValid,
    bits_beq, List.range_succ,
    BitVec.getLsbD_ofNat, Nat.testBit, Nat.shiftRight_eq_div_pow]
  tauto

theorem filterCoprocDataOp_validMatch (w : Word) : filterCoprocDataOp.validMatch w = true ↔
    w[27] = true ∧ w[26] = true ∧ w[25] = true ∧ w[24] = false ∧ w[4] = false := by
  simp [Filter.validMatch, Filter.candidate, filterCoprocDataOp, ControlBits.holds, Kind.needsAluValid, bits_beq,
    List.range_succ,
    BitVec.getLsbD_ofNat, Nat.testBit, Nat.shiftRight_eq_div_pow]
  tauto

theorem filterCoprocRegTransfer_validMatch (w : Word) : filterCoprocRegTransfer.validMatch w = true ↔
    w[27] = true ∧ w[26] = true ∧ w[25] = true ∧ w[24] = false ∧ w[4] = true := by
  simp [Filter.validMatch, Filter.candidate, filterCoprocRegTransfer, ControlBits.holds, Kind.needsAluValid,
    bits_beq, List.range_succ,
    BitVec.getLsbD_ofNat, Nat.testBit, Nat.shiftRight_eq_div_pow]
  tauto

theorem filterSoftwareInterrupt_validMatch (w : Word) : filterSoftwareInterrupt.validMatch w = true ↔
    w[27] = true ∧ w[26] = true ∧ w[25] = true ∧ w[24] = true := by
  simp [Filter.validMatch, Filter.candidate, filterSoftwareInterrupt, ControlBits.holds, Kind.needsAluValid,
    bits_beq, List.range_succ,
    BitVec.getLsbD_ofNat, Nat.testBit, Nat.shiftRight_eq_div_pow]
  tauto

/-! ## The selection -/

theorem kindOf_cons (l : List Filter) (f : Filter) (w : Word) :
    (((f :: l).find? (·.validMatch w)).map (·.kind)).getD Kind.unknown =
    if f.validMatch w = true then f.kind
    else ((l.find? (·.validMatch w)).map (·.kind)).getD Kind.unknown := by
  cases h : f.validMatch w <;> simp [h]

theorem kindOf_getD (w : Word) : kindOf w = ((filters.find? (·.validMatch w)).map (·.kind)).getD Kind.unknown := by
  unfold kindOf selected; cases filters.find? (·.validMatch w) <;> rfl

/-- The type of a word as the chain of tests in priority order (R74). -/
theorem kindOf_chain (w : Word) : kindOf w =
    if filterAluRegShiftImm.validMatch w = true then .aluRegShiftImm
    else if filterAluRegShiftReg.validMatch w = true then .aluRegShiftReg
    else if filterAluImm.validMatch w = true then .aluImm
    else if filterPsrImm.validMatch w = true then .psrImm
    else if filterPsrReg.validMatch w = true then .psrReg
    else if filterBranchExchange.validMatch w = true then .branchExchange
    else if filterMultiply.validMatch w = true then .multiply
    else if filterMultiplyLong.validMatch w = true then .multiplyLong
    else if filterSwap.validMatch w = true then .swap
    else if filterHalfwordReg.validMatch w = true then .halfwordReg
    else if filterHalfwordImm.validMatch w = true then .halfwordImm
    else if filterTransferReg.validMatch w = true then .transferReg
    else if filterTransferImm.validMatch w = true then .transferImm
    else if filterUndefined.validMatch w = true then .undefined
    else if filterBlockTransfer.validMatch w = true then .blockTransfer
    else if filterBranch.validMatch w = true then .branch
    else if filterCoprocDataTransfer.validMatch w = true then .coprocDataTransfer
    else if filterCoprocDataOp.validMatch w = true then .coprocDataOp
    else if filterCoprocRegTransfer.validMatch w = true then .coprocRegTransfer
    else if filterSoftwareInterrupt.validMatch w = true then .softwareInterrupt
    else .unknown := by
  simp only [kindOf_getD, filters, List.cons_append, List.nil_append, kindOf_cons]
  rfl

/-! ## Rows and classifications -/

theorem compareRow_some {s : BitVec 1} {rd : BitVec 4} {a b i : Instr} (h : compareRow s rd a b = some i) :
    (s = 1 ∧ rd = 0 ∧ i = a) ∨ (s = 1 ∧ rd = 15 ∧ i = b) := by
  unfold compareRow at h
  split at h
  · simp_all
  · split at h <;> simp_all

/-- The mnemonic table is one-to-one on its keys (R112). -/
theorem aluName_op (op : BitVec 4) :
    op = (match aluName op with
      | .and => 0 | .eor => 1 | .sub => 2 | .rsb => 3 | .add => 4 | .adc => 5 | .sbc => 6 | .rsc => 7
      | .tst => 8 | .teq => 9 | .cmp => 10 | .cmn => 11 | .orr => 12 | .mov => 13 | .bic => 14 | .mvn => 15) := by
  revert op; decide

theorem AluRegShiftImmFields.toInstr?_classification {f : AluRegShiftImmFields} {i : Instr} (h : f.toInstr? = some i) :
    i.classification = .aluRegShiftImm f := by
  obtain ⟨cond, op, s, rn, rd, sa, st, rm⟩ := f
  have ho := aluName_op op
  unfold AluRegShiftImmFields.toInstr? at h
  simp only [] at h
  cases hn : aluName op <;> rw [hn] at h ho <;> subst ho <;>
    first
    | (cases h; rfl)
    | (obtain ⟨rfl, rfl, rfl⟩ | ⟨rfl, rfl, rfl⟩ := compareRow_some h <;> rfl)

theorem AluRegShiftRegFields.toInstr?_classification {f : AluRegShiftRegFields} {i : Instr} (h : f.toInstr? = some i) :
    i.classification = .aluRegShiftReg f := by
  obtain ⟨cond, op, s, rn, rd, rs, st, rm⟩ := f
  have ho := aluName_op op
  unfold AluRegShiftRegFields.toInstr? at h
  simp only [] at h
  cases hn : aluName op <;> rw [hn] at h ho <;> subst ho <;>
    first
    | (cases h; rfl)
    | (obtain ⟨rfl, rfl, rfl⟩ | ⟨rfl, rfl, rfl⟩ := compareRow_some h <;> rfl)

theorem AluImmFields.toInstr?_classification {f : AluImmFields} {i : Instr} (h : f.toInstr? = some i) :
    i.classification = .aluImm f := by
  obtain ⟨cond, op, s, rn, rd, rot, imm⟩ := f
  have ho := aluName_op op
  unfold AluImmFields.toInstr? at h
  simp only [] at h
  cases hn : aluName op <;> rw [hn] at h ho <;> subst ho <;>
    first
    | (cases h; rfl)
    | (obtain ⟨rfl, rfl, rfl⟩ | ⟨rfl, rfl, rfl⟩ := compareRow_some h <;> rfl)

/-- A row has the classification it came from. -/
theorem Classification.toInstr?_classification {c : Classification} {i : Instr} (h : c.toInstr? = some i) :
    i.classification = c := by
  have bit (l : BitVec 1) : l = 0 ∨ l = 1 := by revert l; decide
  have oct (op : BitVec 3) :
      op = 0 ∨ op = 1 ∨ op = 2 ∨ op = 3 ∨ op = 4 ∨ op = 5 ∨ op = 6 ∨ op = 7 := by revert op; decide
  cases c with
  | unknown => cases h
  | aluRegShiftImm f => exact AluRegShiftImmFields.toInstr?_classification h
  | aluRegShiftReg f => exact AluRegShiftRegFields.toInstr?_classification h
  | aluImm f => exact AluImmFields.toInstr?_classification h
  | branchExchange f =>
    obtain ⟨cond, l, rn⟩ := f
    rcases bit l with rfl | rfl <;> (cases h; rfl)
  | branch f =>
    obtain ⟨cond, l, offset⟩ := f
    rcases bit l with rfl | rfl <;> (cases h; rfl)
  | multiply f =>
    obtain ⟨cond, op, s, rd, rn, rs, rm⟩ := f
    rcases oct op with rfl | rfl | rfl | rfl | rfl | rfl | rfl | rfl <;> (cases h; try rfl)
  | multiplyLong f =>
    obtain ⟨cond, op, s, rdHi, rdLo, rs, rm⟩ := f
    rcases oct op with rfl | rfl | rfl | rfl | rfl | rfl | rfl | rfl <;> (cases h; try rfl)
  | _ f => cases h; rfl

theorem classify_kind (w : Word) : (classify w).kind = kindOf w := by
  unfold classify
  cases kindOf w <;> rfl

/-- The instruction a word decodes to has the word's classification. -/
theorem decodeWord_classification {w : Word} {i : Instr} (h : decodeWord w = some i) : i.classification = classify w :=
  Classification.toInstr?_classification h

end Sys2Proof
end

