-- ==== Sys2Proof/Laws/PerInstr.lean ====
section
/-! SUPPORT. The family `Row`: every instruction is the opcode-table row of its own classification, one lemma per
constructor. -/

namespace Sys2Proof.Laws.Row

/-- The classification of the instruction, its type with the fields its row fixes and its operands, selects that row
again: no two rows share one classification. -/
def Statement (i : Instr) : Prop := i.classification.toInstr? = some i

theorem andRegShiftImm (o : AluRegShiftImmOperands) : Statement (.andRegShiftImm o) := rfl
theorem eorRegShiftImm (o : AluRegShiftImmOperands) : Statement (.eorRegShiftImm o) := rfl
theorem subRegShiftImm (o : AluRegShiftImmOperands) : Statement (.subRegShiftImm o) := rfl
theorem rsbRegShiftImm (o : AluRegShiftImmOperands) : Statement (.rsbRegShiftImm o) := rfl
theorem addRegShiftImm (o : AluRegShiftImmOperands) : Statement (.addRegShiftImm o) := rfl
theorem adcRegShiftImm (o : AluRegShiftImmOperands) : Statement (.adcRegShiftImm o) := rfl
theorem sbcRegShiftImm (o : AluRegShiftImmOperands) : Statement (.sbcRegShiftImm o) := rfl
theorem rscRegShiftImm (o : AluRegShiftImmOperands) : Statement (.rscRegShiftImm o) := rfl
theorem tstRegShiftImmRd0 (o : CmpRegShiftImmOperands) : Statement (.tstRegShiftImmRd0 o) := rfl
theorem tstRegShiftImmRd15 (o : CmpRegShiftImmOperands) : Statement (.tstRegShiftImmRd15 o) := rfl
theorem teqRegShiftImmRd0 (o : CmpRegShiftImmOperands) : Statement (.teqRegShiftImmRd0 o) := rfl
theorem teqRegShiftImmRd15 (o : CmpRegShiftImmOperands) : Statement (.teqRegShiftImmRd15 o) := rfl
theorem cmpRegShiftImmRd0 (o : CmpRegShiftImmOperands) : Statement (.cmpRegShiftImmRd0 o) := rfl
theorem cmpRegShiftImmRd15 (o : CmpRegShiftImmOperands) : Statement (.cmpRegShiftImmRd15 o) := rfl
theorem cmnRegShiftImmRd0 (o : CmpRegShiftImmOperands) : Statement (.cmnRegShiftImmRd0 o) := rfl
theorem cmnRegShiftImmRd15 (o : CmpRegShiftImmOperands) : Statement (.cmnRegShiftImmRd15 o) := rfl
theorem orrRegShiftImm (o : AluRegShiftImmOperands) : Statement (.orrRegShiftImm o) := rfl
theorem movRegShiftImm (o : AluRegShiftImmOperands) : Statement (.movRegShiftImm o) := rfl
theorem bicRegShiftImm (o : AluRegShiftImmOperands) : Statement (.bicRegShiftImm o) := rfl
theorem mvnRegShiftImm (o : AluRegShiftImmOperands) : Statement (.mvnRegShiftImm o) := rfl
theorem andRegShiftReg (o : AluRegShiftRegOperands) : Statement (.andRegShiftReg o) := rfl
theorem eorRegShiftReg (o : AluRegShiftRegOperands) : Statement (.eorRegShiftReg o) := rfl
theorem subRegShiftReg (o : AluRegShiftRegOperands) : Statement (.subRegShiftReg o) := rfl
theorem rsbRegShiftReg (o : AluRegShiftRegOperands) : Statement (.rsbRegShiftReg o) := rfl
theorem addRegShiftReg (o : AluRegShiftRegOperands) : Statement (.addRegShiftReg o) := rfl
theorem adcRegShiftReg (o : AluRegShiftRegOperands) : Statement (.adcRegShiftReg o) := rfl
theorem sbcRegShiftReg (o : AluRegShiftRegOperands) : Statement (.sbcRegShiftReg o) := rfl
theorem rscRegShiftReg (o : AluRegShiftRegOperands) : Statement (.rscRegShiftReg o) := rfl
theorem tstRegShiftRegRd0 (o : CmpRegShiftRegOperands) : Statement (.tstRegShiftRegRd0 o) := rfl
theorem tstRegShiftRegRd15 (o : CmpRegShiftRegOperands) : Statement (.tstRegShiftRegRd15 o) := rfl
theorem teqRegShiftRegRd0 (o : CmpRegShiftRegOperands) : Statement (.teqRegShiftRegRd0 o) := rfl
theorem teqRegShiftRegRd15 (o : CmpRegShiftRegOperands) : Statement (.teqRegShiftRegRd15 o) := rfl
theorem cmpRegShiftRegRd0 (o : CmpRegShiftRegOperands) : Statement (.cmpRegShiftRegRd0 o) := rfl
theorem cmpRegShiftRegRd15 (o : CmpRegShiftRegOperands) : Statement (.cmpRegShiftRegRd15 o) := rfl
theorem cmnRegShiftRegRd0 (o : CmpRegShiftRegOperands) : Statement (.cmnRegShiftRegRd0 o) := rfl
theorem cmnRegShiftRegRd15 (o : CmpRegShiftRegOperands) : Statement (.cmnRegShiftRegRd15 o) := rfl
theorem orrRegShiftReg (o : AluRegShiftRegOperands) : Statement (.orrRegShiftReg o) := rfl
theorem movRegShiftReg (o : AluRegShiftRegOperands) : Statement (.movRegShiftReg o) := rfl
theorem bicRegShiftReg (o : AluRegShiftRegOperands) : Statement (.bicRegShiftReg o) := rfl
theorem mvnRegShiftReg (o : AluRegShiftRegOperands) : Statement (.mvnRegShiftReg o) := rfl
theorem andImm (o : AluImmOperands) : Statement (.andImm o) := rfl
theorem eorImm (o : AluImmOperands) : Statement (.eorImm o) := rfl
theorem subImm (o : AluImmOperands) : Statement (.subImm o) := rfl
theorem rsbImm (o : AluImmOperands) : Statement (.rsbImm o) := rfl
theorem addImm (o : AluImmOperands) : Statement (.addImm o) := rfl
theorem adcImm (o : AluImmOperands) : Statement (.adcImm o) := rfl
theorem sbcImm (o : AluImmOperands) : Statement (.sbcImm o) := rfl
theorem rscImm (o : AluImmOperands) : Statement (.rscImm o) := rfl
theorem tstImmRd0 (o : CmpImmOperands) : Statement (.tstImmRd0 o) := rfl
theorem tstImmRd15 (o : CmpImmOperands) : Statement (.tstImmRd15 o) := rfl
theorem teqImmRd0 (o : CmpImmOperands) : Statement (.teqImmRd0 o) := rfl
theorem teqImmRd15 (o : CmpImmOperands) : Statement (.teqImmRd15 o) := rfl
theorem cmpImmRd0 (o : CmpImmOperands) : Statement (.cmpImmRd0 o) := rfl
theorem cmpImmRd15 (o : CmpImmOperands) : Statement (.cmpImmRd15 o) := rfl
theorem cmnImmRd0 (o : CmpImmOperands) : Statement (.cmnImmRd0 o) := rfl
theorem cmnImmRd15 (o : CmpImmOperands) : Statement (.cmnImmRd15 o) := rfl
theorem orrImm (o : AluImmOperands) : Statement (.orrImm o) := rfl
theorem movImm (o : AluImmOperands) : Statement (.movImm o) := rfl
theorem bicImm (o : AluImmOperands) : Statement (.bicImm o) := rfl
theorem mvnImm (o : AluImmOperands) : Statement (.mvnImm o) := rfl
theorem psrImm (o : PsrImmFields) : Statement (.psrImm o) := rfl
theorem psrReg (o : PsrRegFields) : Statement (.psrReg o) := rfl
theorem bx (o : BranchExchangeOperands) : Statement (.bx o) := rfl
theorem blx (o : BranchExchangeOperands) : Statement (.blx o) := rfl
theorem mul (o : MultiplyOperands) : Statement (.mul o) := rfl
theorem mla (o : MultiplyOperands) : Statement (.mla o) := rfl
theorem umaal (o : MultiplyOperands) : Statement (.umaal o) := rfl
theorem mulOp3Unassigned (o : MultiplyOperands) : Statement (.mulOp3Unassigned o) := rfl
theorem umull (o : MultiplyLongOperands) : Statement (.umull o) := rfl
theorem umlal (o : MultiplyLongOperands) : Statement (.umlal o) := rfl
theorem smull (o : MultiplyLongOperands) : Statement (.smull o) := rfl
theorem smlal (o : MultiplyLongOperands) : Statement (.smlal o) := rfl
theorem swap (o : SwapFields) : Statement (.swap o) := rfl
theorem halfwordReg (o : HalfwordRegFields) : Statement (.halfwordReg o) := rfl
theorem halfwordImm (o : HalfwordImmFields) : Statement (.halfwordImm o) := rfl
theorem transferReg (o : TransferRegFields) : Statement (.transferReg o) := rfl
theorem transferImm (o : TransferImmFields) : Statement (.transferImm o) := rfl
theorem undefined (o : UndefinedFields) : Statement (.undefined o) := rfl
theorem blockTransfer (o : BlockTransferFields) : Statement (.blockTransfer o) := rfl
theorem b (o : BranchOperands) : Statement (.b o) := rfl
theorem bl (o : BranchOperands) : Statement (.bl o) := rfl
theorem coprocDataTransfer (o : CoprocDataTransferFields) : Statement (.coprocDataTransfer o) := rfl
theorem coprocDataOp (o : CoprocDataOpFields) : Statement (.coprocDataOp o) := rfl
theorem coprocRegTransfer (o : CoprocRegTransferFields) : Statement (.coprocRegTransfer o) := rfl
theorem softwareInterrupt (o : SoftwareInterruptFields) : Statement (.softwareInterrupt o) := rfl

end Sys2Proof.Laws.Row
end

