-- ==== Sys2Proof/Tests/Slice0.lean ====
section
/-! SUPPORT. The model's own tests. Expected results come from the encodings of R61 and R62, written out bit by bit, and
from the worked examples and vectors of 95_test_vectors.md; then, for each obligation with hypotheses, a witness that
meets them. -/

open Sys2Proof Sys2Proof.Machine

/-! ## Well-formedness: an ill-formed term for each check -/

/-- A multiply word is no register-offset halfword transfer (R93). -/
theorem test_wf_refuses_halfwordReg_that_is_multiply :
    (Instr.halfwordReg ⟨0xE, 0, 1, 0, 1, 1, 2, 0, 3⟩).wellFormed = false := by decide

/-- A swap word is no register-offset halfword transfer (R93). -/
theorem test_wf_refuses_halfwordReg_that_is_swap :
    (Instr.halfwordReg ⟨0xE, 1, 0, 0, 0, 1, 2, 0, 3⟩).wellFormed = false := by decide

/-- A multiply word is no immediate-offset halfword transfer (R94). -/
theorem test_wf_refuses_halfwordImm_that_is_multiply :
    (Instr.halfwordImm ⟨0xE, 0, 1, 0, 1, 1, 2, 5, 0, 3⟩).wellFormed = false := by decide

/-- A swap word is no immediate-offset halfword transfer (R94). -/
theorem test_wf_refuses_halfwordImm_that_is_swap :
    (Instr.halfwordImm ⟨0xE, 1, 0, 0, 0, 1, 2, 0, 0, 3⟩).wellFormed = false := by decide

/-- `SH` = 0 is well-formed where it is no multiply and no swap (R93, R94). -/
theorem test_wf_accepts_sh_zero :
    (Instr.halfwordReg ⟨0xE, 1, 1, 1, 0, 0, 0, 0, 0⟩).wellFormed = true
    ∧ (Instr.halfwordImm ⟨0xE, 1, 0, 0, 0, 1, 2, 1, 0, 3⟩).wellFormed = true := by decide

/-! ## Decoding: every constructor from a word written out from R61 and R62 -/

theorem test_decode_aluRegShiftImm_1 :
    decodeWord 0b01010000000100000101100000001000 = some (.andRegShiftImm ⟨5, 1, 0, 5, 16, 0, 8⟩)
    ∧ decodeWord 0b10000000001011011000101101100101 = some (.eorRegShiftImm ⟨8, 0, 13, 8, 22, 3, 5⟩)
    ∧ decodeWord 0b11000000010000111001100100100001 = some (.subRegShiftImm ⟨12, 0, 3, 9, 18, 1, 1⟩)
    ∧ decodeWord 0b01010000011011111010001011101100 = some (.rsbRegShiftImm ⟨5, 0, 15, 10, 5, 3, 12⟩)
    ∧ decodeWord 0b10100000100111111101111010000000 = some (.addRegShiftImm ⟨10, 1, 15, 13, 29, 0, 0⟩)
    ∧ decodeWord 0b00010000101100111101100101101001 = some (.adcRegShiftImm ⟨1, 1, 3, 13, 18, 3, 9⟩)
    ∧ decodeWord 0b00110000110111100000011101000011 = some (.sbcRegShiftImm ⟨3, 1, 14, 0, 14, 2, 3⟩)
    ∧ decodeWord 0b00100000111100011000011001000001 = some (.rscRegShiftImm ⟨2, 1, 1, 8, 12, 2, 1⟩)
    ∧ decodeWord 0b01110001000110100000000111101101 = some (.tstRegShiftImmRd0 ⟨7, 10, 3, 3, 13⟩)
    ∧ decodeWord 0b01110001000110011111010110100001 = some (.tstRegShiftImmRd15 ⟨7, 9, 11, 1, 1⟩) := by
  decide

theorem test_decode_aluRegShiftImm_2 :
    decodeWord 0b11110001001111010000111011000010 = some (.teqRegShiftImmRd0 ⟨15, 13, 29, 2, 2⟩)
    ∧ decodeWord 0b11000001001111111111101101000101 = some (.teqRegShiftImmRd15 ⟨12, 15, 22, 2, 5⟩)
    ∧ decodeWord 0b10000001010110110000011110000100 = some (.cmpRegShiftImmRd0 ⟨8, 11, 15, 0, 4⟩)
    ∧ decodeWord 0b10110001010100011111001011000011 = some (.cmpRegShiftImmRd15 ⟨11, 1, 5, 2, 3⟩)
    ∧ decodeWord 0b11110001011100110000100111100110 = some (.cmnRegShiftImmRd0 ⟨15, 3, 19, 3, 6⟩)
    ∧ decodeWord 0b10110001011111111111010101001001 = some (.cmnRegShiftImmRd15 ⟨11, 15, 10, 2, 9⟩)
    ∧ decodeWord 0b11100001100111101001010110001000 = some (.orrRegShiftImm ⟨14, 1, 14, 9, 11, 0, 8⟩)
    ∧ decodeWord 0b01100001101100111010111011000110 = some (.movRegShiftImm ⟨6, 1, 3, 10, 29, 2, 6⟩)
    ∧ decodeWord 0b00010001110001000100110000100100 = some (.bicRegShiftImm ⟨1, 0, 4, 4, 24, 1, 4⟩)
    ∧ decodeWord 0b10100001111001010000001000101011 = some (.mvnRegShiftImm ⟨10, 0, 5, 0, 4, 1, 11⟩) := by
  decide

theorem test_decode_aluRegShiftReg_1 :
    decodeWord 0b00100000000110110111011001011110 = some (.andRegShiftReg ⟨2, 1, 11, 7, 6, 2, 14⟩)
    ∧ decodeWord 0b01010000001011111101000000010000 = some (.eorRegShiftReg ⟨5, 0, 15, 13, 0, 0, 0⟩)
    ∧ decodeWord 0b01010000010111010001001000010100 = some (.subRegShiftReg ⟨5, 1, 13, 1, 2, 0, 4⟩)
    ∧ decodeWord 0b11010000011011011011000101010111 = some (.rsbRegShiftReg ⟨13, 0, 13, 11, 1, 2, 7⟩)
    ∧ decodeWord 0b11000000100111011011010000010101 = some (.addRegShiftReg ⟨12, 1, 13, 11, 4, 0, 5⟩)
    ∧ decodeWord 0b01010000101100111101000100011110 = some (.adcRegShiftReg ⟨5, 1, 3, 13, 1, 0, 14⟩)
    ∧ decodeWord 0b00100000110011001101000100110111 = some (.sbcRegShiftReg ⟨2, 0, 12, 13, 1, 1, 7⟩)
    ∧ decodeWord 0b10110000111101100101011001110000 = some (.rscRegShiftReg ⟨11, 1, 6, 5, 6, 3, 0⟩)
    ∧ decodeWord 0b00010001000110000000011100111000 = some (.tstRegShiftRegRd0 ⟨1, 8, 7, 1, 8⟩)
    ∧ decodeWord 0b11010001000100001111101101010011 = some (.tstRegShiftRegRd15 ⟨13, 0, 11, 2, 3⟩) := by
  decide

theorem test_decode_aluRegShiftReg_2 :
    decodeWord 0b11100001001100110000011100011101 = some (.teqRegShiftRegRd0 ⟨14, 3, 7, 0, 13⟩)
    ∧ decodeWord 0b11000001001101101111110100010100 = some (.teqRegShiftRegRd15 ⟨12, 6, 13, 0, 4⟩)
    ∧ decodeWord 0b00010001010110100000110000110001 = some (.cmpRegShiftRegRd0 ⟨1, 10, 12, 1, 1⟩)
    ∧ decodeWord 0b01100001010101011111110000111111 = some (.cmpRegShiftRegRd15 ⟨6, 5, 12, 1, 15⟩)
    ∧ decodeWord 0b11100001011101000000100001110101 = some (.cmnRegShiftRegRd0 ⟨14, 4, 8, 3, 5⟩)
    ∧ decodeWord 0b10110001011101011111001000011011 = some (.cmnRegShiftRegRd15 ⟨11, 5, 2, 0, 11⟩)
    ∧ decodeWord 0b10010001100001110001111100111100 = some (.orrRegShiftReg ⟨9, 0, 7, 1, 15, 1, 12⟩)
    ∧ decodeWord 0b10000001101111001101111000110111 = some (.movRegShiftReg ⟨8, 1, 12, 13, 14, 1, 7⟩)
    ∧ decodeWord 0b01110001110111000001011001010110 = some (.bicRegShiftReg ⟨7, 1, 12, 1, 6, 2, 6⟩)
    ∧ decodeWord 0b01110001111010001110010101011101 = some (.mvnRegShiftReg ⟨7, 0, 8, 14, 5, 2, 13⟩) := by
  decide

theorem test_decode_aluImm_1 :
    decodeWord 0b00010010000101111011101100001001 = some (.andImm ⟨1, 1, 7, 11, 11, 9⟩)
    ∧ decodeWord 0b00010010001110000110101100110100 = some (.eorImm ⟨1, 1, 8, 6, 11, 52⟩)
    ∧ decodeWord 0b00110010010100110111100110110100 = some (.subImm ⟨3, 1, 3, 7, 9, 180⟩)
    ∧ decodeWord 0b00110010011101101100011101100111 = some (.rsbImm ⟨3, 1, 6, 12, 7, 103⟩)
    ∧ decodeWord 0b01100010100011011100010000101100 = some (.addImm ⟨6, 0, 13, 12, 4, 44⟩)
    ∧ decodeWord 0b11110010101011011100101011111011 = some (.adcImm ⟨15, 0, 13, 12, 10, 251⟩)
    ∧ decodeWord 0b11010010110010101100000000000111 = some (.sbcImm ⟨13, 0, 10, 12, 0, 7⟩)
    ∧ decodeWord 0b10110010111000101010100011100001 = some (.rscImm ⟨11, 0, 2, 10, 8, 225⟩)
    ∧ decodeWord 0b11100011000100000000111010111100 = some (.tstImmRd0 ⟨14, 0, 14, 188⟩)
    ∧ decodeWord 0b00010011000101111111100100101101 = some (.tstImmRd15 ⟨1, 7, 9, 45⟩) := by
  decide

theorem test_decode_aluImm_2 :
    decodeWord 0b01100011001110010000010011010000 = some (.teqImmRd0 ⟨6, 9, 4, 208⟩)
    ∧ decodeWord 0b10110011001100111111110100000000 = some (.teqImmRd15 ⟨11, 3, 13, 0⟩)
    ∧ decodeWord 0b10100011010100010000111011011010 = some (.cmpImmRd0 ⟨10, 1, 14, 218⟩)
    ∧ decodeWord 0b00000011010111101111010000111010 = some (.cmpImmRd15 ⟨0, 14, 4, 58⟩)
    ∧ decodeWord 0b10000011011110000000101010111100 = some (.cmnImmRd0 ⟨8, 8, 10, 188⟩)
    ∧ decodeWord 0b00000011011110011111110110111011 = some (.cmnImmRd15 ⟨0, 9, 13, 187⟩)
    ∧ decodeWord 0b00100011100110010100101110100010 = some (.orrImm ⟨2, 1, 9, 4, 11, 162⟩)
    ∧ decodeWord 0b10100011101101110010110010000100 = some (.movImm ⟨10, 1, 7, 2, 12, 132⟩)
    ∧ decodeWord 0b00010011110010100010011000000110 = some (.bicImm ⟨1, 0, 10, 2, 6, 6⟩)
    ∧ decodeWord 0b00010011111000100001110110101000 = some (.mvnImm ⟨1, 0, 2, 1, 13, 168⟩) := by
  decide

theorem test_decode_psrImm :
    decodeWord 0b00010011001010011000111011100111 = some (.psrImm ⟨1, 0, 9, 8, 14, 231⟩) := by
  decide

theorem test_decode_psrReg :
    decodeWord 0b00110001010010100101000000001100 = some (.psrReg ⟨3, 1, 0, 10, 5, 12⟩) := by
  decide

theorem test_decode_branchExchange :
    decodeWord 0b01010001001011111111111100011101 = some (.bx ⟨5, 13⟩)
    ∧ decodeWord 0b11000001001011111111111100111001 = some (.blx ⟨12, 9⟩) := by
  decide

theorem test_decode_multiply :
    decodeWord 0b01110000000100111000011110010001 = some (.mul ⟨7, 1, 3, 8, 7, 1⟩)
    ∧ decodeWord 0b01110000001000111011010010011010 = some (.mla ⟨7, 0, 3, 11, 4, 10⟩)
    ∧ decodeWord 0b01010000010001100110100110011001 = some (.umaal ⟨5, 0, 6, 6, 9, 9⟩)
    ∧ decodeWord 0b10010000011011010110100010011111 = some (.mulOp3Unassigned ⟨9, 0, 13, 6, 8, 15⟩) := by
  decide

theorem test_decode_multiplyLong :
    decodeWord 0b10110000100100000100000010011000 = some (.umull ⟨11, 1, 0, 4, 0, 8⟩)
    ∧ decodeWord 0b11010000101101110100101110011100 = some (.umlal ⟨13, 1, 7, 4, 11, 12⟩)
    ∧ decodeWord 0b11100000110001010110111110010000 = some (.smull ⟨14, 0, 5, 6, 15, 0⟩)
    ∧ decodeWord 0b10000000111001110111000010010100 = some (.smlal ⟨8, 0, 7, 7, 0, 4⟩) := by
  decide

theorem test_decode_swap :
    decodeWord 0b00100001000010000000000010011011 = some (.swap ⟨2, 0, 8, 0, 11⟩) := by
  decide

theorem test_decode_halfwordReg :
    decodeWord 0b01010001101011001100000011010010 = some (.halfwordReg ⟨5, 1, 1, 1, 0, 12, 12, 2, 2⟩) := by
  decide

theorem test_decode_halfwordImm :
    decodeWord 0b11100001011011110100111111011000 = some (.halfwordImm ⟨14, 1, 0, 1, 0, 15, 4, 15, 2, 8⟩) := by
  decide

theorem test_decode_transferReg :
    decodeWord 0b10110110101010010010110101101000 = some (.transferReg ⟨11, 0, 1, 0, 1, 0, 9, 2, 26, 3, 8⟩) := by
  decide

theorem test_decode_transferImm :
    decodeWord 0b10110101011000010111101100010100 = some (.transferImm ⟨11, 1, 0, 1, 1, 0, 1, 7, 2836⟩) := by
  decide

theorem test_decode_undefined :
    decodeWord 0b01000111011001110001111000011010 = some (.undefined ⟨4⟩) := by
  decide

theorem test_decode_blockTransfer :
    decodeWord 0b11011000100100111000101000001011 = some (.blockTransfer ⟨13, 0, 1, 0, 0, 1, 3, 35339⟩) := by
  decide

theorem test_decode_branch :
    decodeWord 0b01101010001111110100001001000000 = some (.b ⟨6, 4145728⟩)
    ∧ decodeWord 0b10101011010001010110110011001000 = some (.bl ⟨10, 4549832⟩) := by
  decide

theorem test_decode_coprocDataTransfer :
    decodeWord 0b10011101001000000010110010100111 = some (.coprocDataTransfer ⟨9, 1, 0, 0, 1, 0, 0, 2, 12, 167⟩) := by
  decide

theorem test_decode_coprocDataOp :
    decodeWord 0b01111110100000111000110100001110 = some (.coprocDataOp ⟨7, 8, 3, 8, 13, 0, 14⟩) := by
  decide

theorem test_decode_coprocRegTransfer :
    decodeWord 0b00101110100110000001000100111110 = some (.coprocRegTransfer ⟨2, 4, 1, 8, 1, 1, 1, 14⟩) := by
  decide

theorem test_decode_softwareInterrupt :
    decodeWord 0b00011111001110111010000110010111 = some (.softwareInterrupt ⟨1, 3907991⟩) := by
  decide

/-! ## The worked examples and vectors of 95_test_vectors.md -/

/-- The line REN prints for a word at an address, both options off and the default text; none if it fails. -/
def testText (address w : Word) : Option String :=
  match render { showAddress := false, showOpcode := false } address w (classify w) with
  | .ok r => some (r.text {})
  | .error _ => none

/-- The type of a word, its valid matches, and its line at address 0. -/
def testVector (w : Word) : Kind × List Kind × Option String := (kindOf w, validMatches w, testText 0 w)

/-- 95_test_vectors.md, 2.1: the valid matches, first the type, and the rendered text. -/
theorem test_vectors_alu_1 :
    testVector 0xE1A00000 = (.aluRegShiftImm, [.aluRegShiftImm], some "MOV ...")
    ∧ testVector 0xE0811002 = (.aluRegShiftImm, [.aluRegShiftImm], some "ADD ...")
    ∧ testVector 0x00000000 = (.aluRegShiftImm, [.aluRegShiftImm], some "AND ...")
    ∧ testVector 0xE1500001 = (.aluRegShiftImm, [.aluRegShiftImm], some "CMP ...")
    ∧ testVector 0xE150F001 = (.aluRegShiftImm, [.aluRegShiftImm], some "CMP ...")
    ∧ testVector 0xE1100000 = (.aluRegShiftImm, [.aluRegShiftImm], some "TST ...")
    ∧ testVector 0xE1505001 = (.unknown, [], some "???")
    ∧ testVector 0xE1B01312 = (.aluRegShiftReg, [.aluRegShiftReg], some "MOV ...") := by
  decide

/-- 95_test_vectors.md, 2.1: the valid matches, first the type, and the rendered text. -/
theorem test_vectors_alu_2 :
    testVector 0xE1A00010 = (.aluRegShiftReg, [.aluRegShiftReg], some "MOV ...")
    ∧ testVector 0xE3A01001 = (.aluImm, [.aluImm], some "MOV ...")
    ∧ testVector 0xE2522001 = (.aluImm, [.aluImm], some "SUB ...")
    ∧ testVector 0xE3100001 = (.aluImm, [.aluImm], some "TST ...")
    ∧ testVector 0xE3500000 = (.aluImm, [.aluImm], some "CMP ...")
    ∧ testVector 0xE35F0000 = (.aluImm, [.aluImm], some "CMP ...")
    ∧ testVector 0xE3000001 = (.unknown, [], some "???") := by
  decide

/-- 95_test_vectors.md, 2.2: the valid matches, first the type, and the rendered text. -/
theorem test_vectors_psr_and_branchExchange_1 :
    testVector 0xE3205001 = (.psrImm, [.psrImm], some "[PSR_IMM]")
    ∧ testVector 0xE32FF001 = (.psrImm, [.psrImm], some "[PSR_IMM]")
    ∧ testVector 0xE328F00A = (.psrImm, [.psrImm], some "[PSR_IMM]")
    ∧ testVector 0xE3600000 = (.psrImm, [.psrImm], some "[PSR_IMM]")
    ∧ testVector 0xE3400000 = (.unknown, [], some "???")
    ∧ testVector 0xE10F0000 = (.psrReg, [.psrReg], some "[PSR_REG]")
    ∧ testVector 0xE14F0000 = (.psrReg, [.psrReg], some "[PSR_REG]")
    ∧ testVector 0xE129F000 = (.psrReg, [.psrReg], some "[PSR_REG]") := by
  decide

/-- 95_test_vectors.md, 2.2: the valid matches, first the type, and the rendered text. -/
theorem test_vectors_psr_and_branchExchange_2 :
    testVector 0xE169F001 = (.psrReg, [.psrReg], some "[PSR_REG]")
    ∧ testVector 0xE1400001 = (.psrReg, [.psrReg], some "[PSR_REG]")
    ∧ testVector 0xE12FFF10 = (.branchExchange, [.branchExchange], some "BX R0")
    ∧ testVector 0xE12FFF1E = (.branchExchange, [.branchExchange], some "BX R14")
    ∧ testVector 0xE12FFF3E = (.branchExchange, [.branchExchange], some "BLX R14")
    ∧ testVector 0x012FFF1F = (.branchExchange, [.branchExchange], some "BX R15")
    ∧ testVector 0xE12FFF50 = (.unknown, [], some "???")
    ∧ testVector 0xE12FFE10 = (.unknown, [], some "???") := by
  decide

/-- 95_test_vectors.md, 2.3: the valid matches, first the type, and the rendered text. -/
theorem test_vectors_multiplies_and_swap_1 :
    testVector 0xE0010392 = (.multiply, [.multiply], some "MUL")
    ∧ testVector 0xE0010092 = (.multiply, [.multiply, .halfwordReg], some "MUL")
    ∧ testVector 0xE0000090 = (.multiply, [.multiply, .halfwordReg], some "MUL")
    ∧ testVector 0xE0231094 = (.multiply, [.multiply, .halfwordReg], some "MLA")
    ∧ testVector 0xE0410392 = (.multiply, [.multiply, .halfwordImm], some "UMAAL")
    ∧ testVector 0xE0600090 = (.multiply, [.multiply, .halfwordImm], none)
    ∧ testVector 0xE0821493 = (.multiplyLong, [.multiplyLong], some "UMULL") := by
  decide

/-- 95_test_vectors.md, 2.3: the valid matches, first the type, and the rendered text. -/
theorem test_vectors_multiplies_and_swap_2 :
    testVector 0xE0821093 = (.multiplyLong, [.multiplyLong, .halfwordReg], some "UMULL")
    ∧ testVector 0xE0A21493 = (.multiplyLong, [.multiplyLong], some "UMLAL")
    ∧ testVector 0xE0C21493 = (.multiplyLong, [.multiplyLong, .halfwordImm], some "SMULL")
    ∧ testVector 0xE0E21493 = (.multiplyLong, [.multiplyLong, .halfwordImm], some "SMLAL")
    ∧ testVector 0xE1002091 = (.swap, [.swap, .halfwordReg], some "[SWAP]")
    ∧ testVector 0xE1402091 = (.swap, [.swap, .halfwordImm], some "[SWAP]")
    ∧ testVector 0xE1000090 = (.swap, [.swap, .halfwordReg], some "[SWAP]") := by
  decide

/-- 95_test_vectors.md, 2.4: the valid matches, first the type, and the rendered text. -/
theorem test_vectors_halfword :
    testVector 0xE19100B2 = (.halfwordReg, [.halfwordReg], some "[HALFWORD_REG]")
    ∧ testVector 0xE1202091 = (.halfwordReg, [.halfwordReg], some "[HALFWORD_REG]")
    ∧ testVector 0xE1A00090 = (.halfwordReg, [.halfwordReg], some "[HALFWORD_REG]")
    ∧ testVector 0xE19103B2 = (.unknown, [], some "???")
    ∧ testVector 0xE1D100B2 = (.halfwordImm, [.halfwordImm], some "[HALFWORD_IMM]")
    ∧ testVector 0xE1D120F4 = (.halfwordImm, [.halfwordImm], some "[HALFWORD_IMM]")
    ∧ testVector 0xE1F00090 = (.halfwordImm, [.halfwordImm], some "[HALFWORD_IMM]") := by
  decide

/-- 95_test_vectors.md, 2.5: the valid matches, first the type, and the rendered text. -/
theorem test_vectors_transfers :
    testVector 0xE7910002 = (.transferReg, [.transferReg], some "[TRANSFER_REG]")
    ∧ testVector 0xE5910004 = (.transferImm, [.transferImm], some "[TRANSFER_IMM]")
    ∧ testVector 0xE4D12001 = (.transferImm, [.transferImm], some "[TRANSFER_IMM]")
    ∧ testVector 0xE7910012 = (.undefined, [.undefined], some "[UNDEFINED]")
    ∧ testVector 0xE8BD8000 = (.blockTransfer, [.blockTransfer], some "[BLOCK_TRANSFER]")
    ∧ testVector 0xE92D4010 = (.blockTransfer, [.blockTransfer], some "[BLOCK_TRANSFER]")
    ∧ testVector 0xE8800000 = (.blockTransfer, [.blockTransfer], some "[BLOCK_TRANSFER]") := by
  decide

/-- 95_test_vectors.md, 2.7: the valid matches, first the type, and the rendered text. -/
theorem test_vectors_coprocessor_and_swi :
    testVector 0xED912A01 = (.coprocDataTransfer, [.coprocDataTransfer], some "[COPROC_DATA_TRANSFER]")
    ∧ testVector 0xEE010302 = (.coprocDataOp, [.coprocDataOp], some "[COPROC_DATA_OP]")
    ∧ testVector 0xEE010312 = (.coprocRegTransfer, [.coprocRegTransfer], some "[COPROC_REG_TRANSFER]")
    ∧ testVector 0xEE010332 = (.coprocRegTransfer, [.coprocRegTransfer], some "[COPROC_REG_TRANSFER]")
    ∧ testVector 0xEE110F10 = (.coprocRegTransfer, [.coprocRegTransfer], some "[COPROC_REG_TRANSFER]")
    ∧ testVector 0xEF000011 = (.softwareInterrupt, [.softwareInterrupt], some "[SOFTWARE_INTERRUPT]")
    ∧ testVector 0xEFFFFFFF = (.softwareInterrupt, [.softwareInterrupt], some "[SOFTWARE_INTERRUPT]")
    ∧ testVector 0xFFFFFFFF = (.softwareInterrupt, [.softwareInterrupt], some "[SOFTWARE_INTERRUPT]") := by
  decide

/-- 95_test_vectors.md, 2.1: all sixteen mnemonics. -/
theorem test_sixteen_mnemonics :
    [0xE0000000, 0xE0200000, 0xE0400000, 0xE0600000, 0xE0800000, 0xE0A00000, 0xE0C00000, 0xE0E00000, 0xE1100000,
      0xE1300000, 0xE1500000, 0xE1700000, 0xE1800000, 0xE1A00000, 0xE1C00000, 0xE1E00000].map (testText 0)
    = [some "AND ...", some "EOR ...", some "SUB ...", some "RSB ...", some "ADD ...", some "ADC ...", some "SBC ...",
      some "RSC ...", some "TST ...", some "TEQ ...", some "CMP ...", some "CMN ...", some "ORR ...", some "MOV ...",
      some "BIC ...", some "MVN ..."] := by
  decide

/-- 95_test_vectors.md, 2.6: branches. -/
theorem test_vectors_branch :
    testText 0 0xEA000001 = some "B 0000000C"
    ∧ testText 0 0xEAFFFFFF = some "B 00000004"
    ∧ testText 0 0xEAFFFFFE = some "B 00000000"
    ∧ testText 0 0x0A000000 = some "BEQ 00000008"
    ∧ testText 0 0x1BFFFFFD = some "BLNE FFFFFFFC"
    ∧ testText 0 0xFA000000 = some "BNV 00000008"
    ∧ testText 0 0xEB800000 = some "BL FE000008"
    ∧ testText 0 0xEA7FFFFF = some "B 02000004"
    ∧ testText 0x0000000C 0xEAFFFFFB = some "B 00000000"
    ∧ testText 0x0000000C 0xEB000010 = some "BL 00000054" := by
  decide

/-- 95_test_vectors.md, 2.6: the target law alone. -/
theorem test_branch_targets :
    branchTarget 0x00000000 0x000001 = 0x0000000C
    ∧ branchTarget 0x00000000 0xFFFFFF = 0x00000004
    ∧ branchTarget 0x00000100 0xFFFFFF = 0x00000104
    ∧ branchTarget 0x08000000 0xFFFFFE = 0x08000000
    ∧ branchTarget 0x00000000 0x800000 = 0xFE000008
    ∧ branchTarget 0x00000000 0x7FFFFF = 0x02000004
    ∧ branchTarget 0xFFFFFFF8 0x000000 = 0x00000000
    ∧ branchTarget 0x00000004 0xFFFFFD = 0x00000000
    ∧ branchTarget 0x00000000 0xFFFFFD = 0xFFFFFFFC := by
  decide

/-- 95_test_vectors.md, 2.6: all sixteen condition suffixes. -/
theorem test_sixteen_conditions :
    [0x0A000000, 0x1A000000, 0x2A000000, 0x3A000000, 0x4A000000, 0x5A000000, 0x6A000000, 0x7A000000, 0x8A000000,
      0x9A000000, 0xAA000000, 0xBA000000, 0xCA000000, 0xDA000000, 0xEA000000, 0xFA000000].map (testText 0)
    = [some "BEQ 00000008", some "BNE 00000008", some "BHS 00000008", some "BLO 00000008", some "BMI 00000008",
      some "BPL 00000008", some "BVS 00000008", some "BVC 00000008", some "BHI 00000008", some "BLS 00000008",
      some "BGE 00000008", some "BLT 00000008", some "BGT 00000008", some "BLE 00000008", some "B 00000008",
      some "BNV 00000008"] := by
  decide

/-- 95_test_vectors.md, 2.10: validation of addresses and accesses. -/
theorem test_access_validation :
    singleCheck 0x0203FFFF = none
    ∧ singleCheck 0x02040000 = some (.invalidMemoryAccess .outOfZone 0x02040000)
    ∧ singleCheck 0x10000000 = some (.invalidMemoryAccess .busWidth 0x10000000)
    ∧ singleCheck 0xFFFFFFFF = some (.invalidMemoryAccess .busWidth 0xFFFFFFFF)
    ∧ singleCheck 0x01000000 = some (.invalidMemoryAccess .outOfZone 0x01000000)
    ∧ singleCheck 0x0F000000 = some (.invalidMemoryAccess .outOfZone 0x0F000000)
    ∧ singleCheck 0x00003FFF = none
    ∧ singleCheck 0x00004000 = some (.invalidMemoryAccess .outOfZone 0x00004000)
    ∧ singleCheck 0x040003FE = none
    ∧ singleCheck 0x040003FF = some (.invalidMemoryAccess .outOfZone 0x040003FF)
    ∧ accessCheck 0x040003FC 4 = some (.invalidMemoryAccess .outOfZone 0x040003FF)
    ∧ accessCheck 0x0203FFFC 4 = none
    ∧ accessCheck 0x0203FFFD 4 = some (.invalidMemoryAccess .outOfZone 0x02040000)
    ∧ accessCheck 0x08FFFFFE 4 = none
    ∧ accessCheck 0x09FFFFFC 4 = none
    ∧ accessCheck 0x09FFFFFE 4 = some (.invalidMemoryAccess .crossZoneRange 0x0A000001)
    ∧ accessCheck 0x0DFFFFFE 4 = some (.invalidMemoryAccess .crossZoneRange 0x0E000001)
    ∧ accessCheck 0x0FFFFFFF 2 = some (.invalidMemoryAccess .outOfZone 0x0FFFFFFF)
    ∧ accessCheck 0x0FFFFFFE 4 = some (.invalidMemoryAccess .outOfZone 0x0FFFFFFE) := by
  decide

/-- 95_test_vectors.md, 2.11: validation of ranges. -/
theorem test_range_validation :
    rangeCheck 0x02000000 0x02040000 = none
    ∧ rangeCheck 0x02000000 0x02040001 = some (.invalidMemoryAccess .outOfZone 0x02040001)
    ∧ rangeCheck 0x02000010 0x02000010 = some (.invalidMemoryAccess .reversedOrEmptyRange 0x02000010)
    ∧ rangeCheck 0x02000010 0x02000008 = some (.invalidMemoryAccess .reversedOrEmptyRange 0x02000010)
    ∧ rangeCheck 0x02000000 0x03000000 = some (.invalidMemoryAccess .crossZoneRange 0x03000000)
    ∧ rangeCheck 0x00000000 0x00004000 = none
    ∧ rangeCheck 0x04000000 0x040003FF = none
    ∧ rangeCheck 0x04000000 0x04000400 = some (.invalidMemoryAccess .outOfZone 0x04000400)
    ∧ rangeCheck 0x01000000 0x01000001 = some (.invalidMemoryAccess .outOfZone 0x01000001)
    ∧ rangeCheck 0x08000000 0x09000000 = none
    ∧ rangeCheck 0x08000000 0x09FFFFFF = none
    ∧ rangeCheck 0x08000000 0x0A000000 = some (.invalidMemoryAccess .crossZoneRange 0x0A000000)
    ∧ rangeCheck 0x09000000 0x0A000000 = some (.invalidMemoryAccess .crossZoneRange 0x0A000000)
    ∧ rangeCheck 0x09FFFFF0 0x0A000010 = some (.invalidMemoryAccess .crossZoneRange 0x0A000010)
    ∧ rangeCheck 0x0C000000 0x0D800000 = none
    ∧ rangeCheck 0x0D000000 0x0E000000 = some (.invalidMemoryAccess .crossZoneRange 0x0E000000)
    ∧ rangeCheck 0x0E000000 0x0E010000 = none
    ∧ rangeCheck 0x0E000000 0x0F000000 = some (.invalidMemoryAccess .crossZoneRange 0x0F000000)
    ∧ rangeCheck 0x0FFFFFF0 0x10000000 = some (.invalidMemoryAccess .busWidth 0x10000000) := by
  decide

/-- 95_test_vectors.md, 1.2: the field map of `0xE0811002`, name by name. -/
theorem test_field_map :
    (classify 0xE0811002).fieldMap
      = [(.cond, 0xE), (.op, 4), (.s, 0), (.rn, 1), (.rd, 1), (.shiftAmount, 0), (.shiftType, 0), (.rm, 2)]
    ∧ (classify 0xED912A01).fieldMap
      = [(.cond, 0xE), (.p, 1), (.u, 1), (.n, 0), (.w, 0), (.l, 1), (.rn, 1), (.crd, 2), (.cpNum, 0xA), (.offset, 1)] := by
  decide

/-- 95_test_vectors.md, 2.8: the four layouts of a line. -/
theorem test_layout_options :
    [(false, false), (true, false), (false, true), (true, true)].map (fun o =>
      match render ⟨o.1, o.2⟩ 0x08000123 0xE12FFF1E (classify 0xE12FFF1E) with
      | .ok r => r.text {}
      | .error _ => "")
      = ["BX R14", "08000123 : BX R14", "E12FFF1E | BX R14", "08000123 : E12FFF1E | BX R14"] := by
  decide

/-! ## The commands of ASC -/

/-- The reply to a command after the given commands have been served, from the memory of the first reset. -/
def testReply (before : List Command) (c : Command) : Reply :=
  (serveCommand (before.foldl (fun m d => (serveCommand m d).1) (.fresh 0)) c).2

/-- 95_test_vectors.md, 2.12: byte order and the phase of a fill. The row for `read32(0x02000003)` forgets the seventh
byte; the rules give it (log entry 23). -/
theorem test_fill_and_byte_order :
    let f := [Command.fill 0x02000000 0x02000007 0xAABBCCDD]
    testReply f (.read32 0x02000000) = .word 0xAABBCCDD
    ∧ testReply f (.read16 0x02000001) = .half 0xBBCC
    ∧ testReply f (.read16 0x02000004) = .half 0xCCDD
    ∧ testReply f (.read32 0x02000003) = .word 0xBBCCDDAA
    ∧ testReply (.write8 0x02000007 0x77 :: f) (.read32 0x02000004) = .word 0x77BBCCDD := by
  decide

/-- 95_test_vectors.md, 2.12: the mirrors of the ROM buffer, and no other alias. -/
theorem test_rom_mirrors :
    testReply [.write8 0x08000000 0x5A] (.read8 0x0A000000) = .byte 0x5A
    ∧ testReply [.write8 0x0A000000 0xA5] (.read8 0x08000000) = .byte 0xA5
    ∧ testReply [.write8 0x0D000004 0xC3] (.read8 0x0B000004) = .byte 0xC3
    ∧ testReply [.writeBlock 0x08FFFFFE [1, 2, 3, 4]] (.read32 0x0AFFFFFE) = .word 0x04030201
    ∧ testReply [.writeBlock 0x08FFFFFE [1, 2, 3, 4]] (.read16 0x0D000000) = .half 0x0403
    ∧ testReply [.write8 0x03000000 0x22, .write8 0x02000000 0x11] (.read8 0x03000000) = .byte 0x22 := by
  decide

/-- 95_test_vectors.md, 2.12: a rejected block changes no byte; an empty block is an empty range. -/
theorem test_rejected_blocks :
    testReply [] (.writeBlock 0x0203FFFE [1, 2, 3]) = .failed (.invalidMemoryAccess .outOfZone 0x02040001)
    ∧ testReply [.write8 0x0203FFFE 9, .writeBlock 0x0203FFFE [1, 2, 3]] (.read8 0x0203FFFE) = .byte 9
    ∧ testReply [] (.writeBlock 0x02000000 []) = .failed (.invalidMemoryAccess .reversedOrEmptyRange 0x02000000) := by
  decide

/-- 95_test_vectors.md, 2.13: the loads fill with ones first. -/
theorem test_loads :
    testReply [.write8 2 0, .loadBios [0x12, 0x34]] (.read32 0) = .word 0xFFFF3412
    ∧ testReply [.write8 0x0DFFFFFF 0, .loadRom [0xAA]] (.read8 0x0A000000) = .byte 0xAA
    ∧ testReply [.write8 0x0DFFFFFF 0, .loadRom [0xAA]] (.read8 0x0DFFFFFF) = .byte 0xFF := by
  decide

/-- 95_test_vectors.md, 1.8 and 2.13: the sizes at which a load fails, and an oversized image (R138, R139, R162). -/
theorem test_oversized_image (m : Memory) (image : List Byte) :
    (image.length = 20480 → loadBios m image = .error (.loadingError .bios 20480 16384))
    ∧ (image.length = 16385 → loadBios m image = .error (.loadingError .bios 16385 16384))
    ∧ (image.length = 33554433 → loadRom m image = .error (.loadingError .rom 33554433 33554432)) := by
  refine ⟨fun h => ?_, fun h => ?_, fun h => ?_⟩ <;> simp [loadBios, loadRom, loadBuffer, Buffer.size, h]

/-- 95_test_vectors.md, 3.6: misaligned reads and a write through a mirror. -/
theorem test_program_6 :
    let l := [Command.loadRom [0x10, 0x20, 0x30, 0x40, 0x50, 0x60]]
    testReply l (.read32 0x0C000004) = .word 0xFFFF6050
    ∧ testReply l (.read16 0x08000003) = .half 0x5040
    ∧ testReply (l ++ [.write8 0x0C000001 0x99]) (.read32 0x08000000) = .word 0x40309910
    ∧ testReply [.fill 0x03000000 0x03000006 0x01020304, .write8 0x03000006 0] (.read32 0x03000002) = .word 0x03040102
    ∧ testReply [] (.fill 0x03007FFC 0x03008001 0) = .failed (.invalidMemoryAccess .outOfZone 0x03008001)
    ∧ testReply [] (.fill 0x03007FFC 0x03008000 0) = .done
    ∧ testReply [] (.dumpZone 1) = .bytes [] := by
  decide

/-! ## One step -/

/-- A pipeline between two cycles: the pc, the words in F and D with the types they have there, and the memory that a load of
the given words into BIOS leaves. -/
def testPipe (pc : Word) (f d : Option Word) (words : List Word) : State :=
  { State.reset with
    x := (Vector.replicate 16 0).set 15 pc
    slotF := f.map fun w => ⟨pc - 4, w, none⟩
    slotD := d.map fun w => ⟨pc - 8, w, some (classify w)⟩
    mem := (serveCommand (.fresh 0) (.loadBios (words.flatMap bytesOfWord))).1 }

/-- What one step from a state shows: the text, the word released, the pc and the latch. -/
def testStep (s : State) : Option (Option String × Option Word × Word × Option Error) :=
  match step s with
  | .next t => some (t.out.decoded.map (·.text), t.out.executed.map (·.opcode), t.pc, t.fault)
  | _ => none

/-- 95_test_vectors.md, 3.1, cycle 5: the branch in F is rendered and redirects nothing. -/
theorem test_program_1_cycle_5 :
    testStep { testPipe 0x10 (some 0xEAFFFFFB) (some 0xE0811002) [] with
        options := { showAddress := true, showOpcode := true } }
      = some (some "0000000C : EAFFFFFB | B 00000000", some 0xE0811002, 0x14, none) := by
  decide

/-- 95_test_vectors.md, 3.2, cycle 4 with `AMBIGUITY_FATAL` false and true. -/
theorem test_program_2_cycle_4 :
    testStep (testPipe 0xC (some 0xE0C21493) (some 0xE0010392) []) = some (some "SMULL", some 0xE0010392, 0x10, none)
    ∧ testStep { testPipe 0xC (some 0xE0C21493) (some 0xE0010392) [] with params := { ambiguityFatal := true } }
      = some (none, none, 0x10, some (.decodeAmbiguity 0xE0C21493 0b10010000000)) := by
  decide

/-- 95_test_vectors.md, 3.3, cycle 4097: the fetch past the end of BIOS moves nothing. -/
theorem test_program_3_last_cycle :
    let s := testPipe 0x4000 (some 0xFFFFFFFF) (some 0xFFFFFFFF) []
    step s = .next { s with fault := some (.invalidMemoryAccess .outOfZone 0x4000) } := by
  rfl

/-- 95_test_vectors.md, 3.4, cycle 3: the word the host wrote is fetched, the old word in F is decoded. -/
theorem test_program_4_cycle_3 :
    (match step (testPipe 8 (some 0xE3A01001) (some 0xE1A00000) [0xE1A00000, 0xE12FFF1E, 0xEF000011]) with
      | .next t => (t.out.fetched, t.out.decoded.map (·.text), t.out.executed.map (·.opcode))
      | _ => (none, none, none))
      = (some (8, 0xEF000011), some "MOV ...", some 0xE1A00000) := by
  decide

/-- 95_test_vectors.md, 3.5, cycle 3: the hole of the multiply table; F, D and X are all occupied afterwards. -/
theorem test_program_5_cycle_3 :
    (match step (testPipe 8 (some 0xE0600090) (some 0xE0010392) [0xE0010392, 0xE0600090, 0xE1A00000]) with
      | .next t => (t.slotF.map (·.opcode), t.slotD.map (·.opcode), t.slotX.map (·.opcode), t.pc, t.fault)
      | _ => (none, none, none, 0, none))
      = (some 0xE1A00000, some 0xE0600090, some 0xE0010392, 0xC, some (.unknownMnemonic .multiply 3)) := by
  decide

/-- R152: an UNKNOWN word is decoded and rendered like any other. -/
theorem test_unknown_step : testStep (testPipe 4 (some 0xE1505001) none []) = some (some "???", none, 8, none) := by
  decide

/-- Log entry 10: the probe's word runs in the very next step from reset. -/
theorem test_probe_from_reset :
    [0xE3A01001, 0xE12FFF1E, 0xE5910004].map (fun w => testStep (State.reset.withFetchWord 32 w))
      = [some (some "MOV ...", none, 8, none), some (some "BX R14", none, 8, none),
        some (some "[TRANSFER_IMM]", none, 8, none)] := by
  decide

/-! ## Witnesses: for each obligation with hypotheses, inputs that meet them, at boundary values where it has ranges -/

theorem witness_DecodeOfEncodeGivesTheInstructionBack :
    (Instr.movRegShiftImm ⟨0xE, 1, 0, 15, 31, 3, 15⟩).wellFormed = true
    ∧ (Instr.halfwordReg ⟨0, 1, 0, 1, 0, 0, 2, 0, 1⟩).wellFormed = true
    ∧ (Instr.halfwordImm ⟨0xF, 1, 0, 0, 0, 15, 15, 1, 0, 15⟩).wellFormed = true
    ∧ (Instr.undefined ⟨0xF⟩).wellFormed = true := by decide

theorem witness_EncodeOfDecodeRebuildsTheWord :
    decodeWord 0xE0811002 = some (.addRegShiftImm ⟨0xE, 0, 1, 1, 0, 0, 2⟩)
    ∧ ∀ f, Instr.addRegShiftImm ⟨0xE, 0, 1, 1, 0, 0, 2⟩ ≠ .undefined f := ⟨by decide, fun _ h => by cases h⟩

theorem witness_EveryClassifiedWordIsAnInstruction :
    decodeWord 0xE1505001 = none ∧ kindOf 0xE1505001 = .unknown
    ∧ decodeWord 0xFFFFFFFF = some (.softwareInterrupt ⟨0xF, 0xFFFFFF⟩) := by decide

/-- One word of each set U-a to U-d, and for each a word beside it that has a type. -/
theorem witness_UnknownWordsAreExactlyTheFourSets :
    [0xE3000001, 0xE1400081, 0xE12FFF50, 0xE19103B2].map kindOf = List.replicate 4 .unknown
    ∧ [0xE3200001, 0xE1400001, 0xE12FFF10, 0xE19100B2].map kindOf
      = [.psrImm, .psrReg, .branchExchange, .halfwordReg] := by decide

/-- One word of each of the six sets. -/
theorem witness_MultiMatchWordsAreExactlyTheSixSets :
    [0xE0010092, 0xE0600090, 0xE0821093, 0xE0C21493, 0xE1002091, 0xE1402091].map validMatches
      = [[.multiply, .halfwordReg], [.multiply, .halfwordImm], [.multiplyLong, .halfwordReg],
        [.multiplyLong, .halfwordImm], [.swap, .halfwordReg], [.swap, .halfwordImm]] := by decide

theorem witness_FieldMapIsTheExtractionFormula :
    selected 0xE1A00000 = some filterAluRegShiftImm ∧ selected 0xFFFFFFFF = some filterSoftwareInterrupt
    ∧ selected 0xE1505001 = none := by decide

/-- The first filter, the last one, two valid matches, and none. -/
theorem witness_TypeIsTheFirstValidMatch :
    kindOf 0 = .aluRegShiftImm ∧ (matchVec 0).getLsbD 0 = true
    ∧ kindOf 0xFFFFFFFF = .softwareInterrupt ∧ (matchVec 0xFFFFFFFF).getLsbD 19 = true
    ∧ multiMatch 0xE0010092 = true ∧ kindOf 0xE0010092 = .multiply ∧ kindOf 0xE1505001 = .unknown := by decide

/-- `Op` = 8 and `Op` = 0xB, the ends of the compare group, accepted and rejected; 7 and 0xC, just outside it. -/
theorem witness_ValidityRuleRejectsBadCompareWords :
    [0xE1100000, 0xE170F000, 0xE1101000, 0xE1600000, 0xE0E01000, 0xE1801000].map
        (fun w => (filterAluRegShiftImm.candidate w, filterAluRegShiftImm.validMatch w))
      = [(true, true), (true, true), (true, false), (true, false), (true, true), (true, true)]
    ∧ filterPsrImm.candidate 0xE3205001 = true ∧ filterPsrImm.validMatch 0xE3205001 = true := by decide

theorem witness_RenderedLineHasTheSpecLayout :
    render ⟨true, true⟩ 0 0xEA000001 (classify 0xEA000001) = .ok ⟨some 0, some 0xEA000001, .b .al, .label 12⟩ := by
  rfl

/-- The hole, a word beside it in each place of the pattern, and a type other than 16. -/
theorem witness_RenderFailsOnTheMultiplyHoleOnly :
    isMultiplyHole 0xE0600090 ∧ ¬ isMultiplyHole 0xE0400090 ∧ ¬ isMultiplyHole 0xE0E00090
    ∧ ¬ isMultiplyHole 0xE06000B0 ∧ kindOf 0xE1A00000 ≠ .branch := by
  unfold isMultiplyHole; decide

/-- A state with this word, not yet decoded, in slot D. -/
def testSlotD (p : Config.Params) (w : Word) : State := { State.reset with params := p, slotD := some ⟨0, w, none⟩ }

theorem witness_AluRegShiftImmInstructionsAreDecodedAndRendered :
    (testSlotD {} 0xE1A00000).slotD = some ⟨0, 0xE1A00000, none⟩
    ∧ Unambiguous (testSlotD {} 0xE1A00000) ⟨0, 0xE1A00000, none⟩
    ∧ Unambiguous (testSlotD { ambiguityFatal := true } 0xE1A00000) ⟨0, 0xE1A00000, none⟩ :=
  ⟨rfl, .inl rfl, .inr (by decide)⟩

theorem witness_AluRegShiftRegInstructionsAreDecodedAndRendered :
    (testSlotD {} 0xE1B01312).slotD = some ⟨0, 0xE1B01312, none⟩
    ∧ Unambiguous (testSlotD {} 0xE1B01312) ⟨0, 0xE1B01312, none⟩
    ∧ Unambiguous (testSlotD { ambiguityFatal := true } 0xE1B01312) ⟨0, 0xE1B01312, none⟩ :=
  ⟨rfl, .inl rfl, .inr (by decide)⟩

theorem witness_AluImmInstructionsAreDecodedAndRendered :
    (testSlotD {} 0xE3A01001).slotD = some ⟨0, 0xE3A01001, none⟩
    ∧ Unambiguous (testSlotD {} 0xE3A01001) ⟨0, 0xE3A01001, none⟩
    ∧ Unambiguous (testSlotD { ambiguityFatal := true } 0xE3A01001) ⟨0, 0xE3A01001, none⟩ :=
  ⟨rfl, .inl rfl, .inr (by decide)⟩

/-- A branch-exchange and a branch. -/
theorem witness_BranchesAreDecodedAndRedirectNothing :
    (testSlotD {} 0xE12FFF1E).slotD = some ⟨0, 0xE12FFF1E, none⟩
    ∧ Unambiguous (testSlotD {} 0xE12FFF1E) ⟨0, 0xE12FFF1E, none⟩
    ∧ (testSlotD { ambiguityFatal := true } 0xEA000001).slotD = some ⟨0, 0xEA000001, none⟩
    ∧ Unambiguous (testSlotD { ambiguityFatal := true } 0xEA000001) ⟨0, 0xEA000001, none⟩ :=
  ⟨rfl, .inl rfl, rfl, .inr (by decide)⟩

/-- A multiply with one valid match and one with two. -/
theorem witness_MultipliesAreDecodedAndRendered :
    (testSlotD { ambiguityFatal := true } 0xE0010392).slotD = some ⟨0, 0xE0010392, none⟩
    ∧ Unambiguous (testSlotD { ambiguityFatal := true } 0xE0010392) ⟨0, 0xE0010392, none⟩
    ∧ (testSlotD {} 0xE0C21493).slotD = some ⟨0, 0xE0C21493, none⟩
    ∧ Unambiguous (testSlotD {} 0xE0C21493) ⟨0, 0xE0C21493, none⟩ :=
  ⟨rfl, .inr (by decide), rfl, .inl rfl⟩

/-- With the policy off: every hole word is also a halfword word, so under the policy it is ambiguous. -/
theorem witness_UnassignedMultiplyCodeLatchesUnknownMnemonic :
    (testSlotD {} 0xE0600090).slotD = some ⟨0, 0xE0600090, none⟩
    ∧ Unambiguous (testSlotD {} 0xE0600090) ⟨0, 0xE0600090, none⟩ := ⟨rfl, .inl rfl⟩

/-- A swap, whose word has two valid matches, and a block transfer under the policy. -/
theorem witness_LoadAndStoreFormatsAreDecodedAndAccessNothing :
    (testSlotD {} 0xE1002091).slotD = some ⟨0, 0xE1002091, none⟩
    ∧ Unambiguous (testSlotD {} 0xE1002091) ⟨0, 0xE1002091, none⟩
    ∧ (testSlotD { ambiguityFatal := true } 0xE8BD8000).slotD = some ⟨0, 0xE8BD8000, none⟩
    ∧ Unambiguous (testSlotD { ambiguityFatal := true } 0xE8BD8000) ⟨0, 0xE8BD8000, none⟩ :=
  ⟨rfl, .inl rfl, rfl, .inr (by decide)⟩

theorem witness_SystemFormatsAreDecodedAndTakeNoTrap :
    (testSlotD {} 0xEF000011).slotD = some ⟨0, 0xEF000011, none⟩
    ∧ Unambiguous (testSlotD {} 0xEF000011) ⟨0, 0xEF000011, none⟩
    ∧ (testSlotD { ambiguityFatal := true } 0xE129F000).slotD = some ⟨0, 0xE129F000, none⟩
    ∧ Unambiguous (testSlotD { ambiguityFatal := true } 0xE129F000) ⟨0, 0xE129F000, none⟩ :=
  ⟨rfl, .inl rfl, rfl, .inr (by decide)⟩

theorem witness_UnknownWordIsDecodedAndRenderedAsTheMarker :
    kindOf 0xE1505001 = .unknown
    ∧ (testSlotD { ambiguityFatal := true } 0xE1505001).slotD = some ⟨0, 0xE1505001, none⟩
    ∧ Unambiguous (testSlotD { ambiguityFatal := true } 0xE1505001) ⟨0, 0xE1505001, none⟩ :=
  ⟨by decide, rfl, .inr (by decide)⟩

theorem witness_AmbiguousWordLatchesDecodeAmbiguityUnderThePolicy :
    (testSlotD { ambiguityFatal := true } 0xE1002091).slotD = some ⟨0, 0xE1002091, none⟩
    ∧ (testSlotD { ambiguityFatal := true } 0xE1002091).params.ambiguityFatal = true
    ∧ multiMatch 0xE1002091 = true := by decide

/-- The third possibility for the latch, and the second. -/
theorem witness_EveryInstructionCompletesAndChangesNoArchitecturalState :
    (match exec (.swap ⟨0xE, 0, 0, 2, 1⟩) (testSlotD { ambiguityFatal := true } 0xE1002091) with
      | .next t => t.fault | _ => none) = some (.decodeAmbiguity 0xE1002091 (matchVec 0xE1002091))
    ∧ (match exec (.mulOp3Unassigned ⟨0xE, 0, 0, 0, 0, 0⟩) (testSlotD {} 0xE0600090) with
      | .next t => t.fault | _ => none) = some (.unknownMnemonic .multiply 3) := by decide

theorem testPipe_ready (pc : Word) (f d : Option Word) (words : List Word) : Ready (testPipe pc f d words) :=
  ⟨rfl, rfl, rfl⟩

/-- An instruction, an UNKNOWN word and nothing in slot F; at the entry and at the last word of BIOS. -/
theorem witness_StepRunsTheInstructionFetchedBefore :
    Ready (testPipe 4 (some 0xE1A00000) none []) ∧ read32 (testPipe 4 (some 0xE1A00000) none []).mem 4 = .ok 0xFFFFFFFF
    ∧ decodeWord 0xE1A00000 = some (.movRegShiftImm ⟨0xE, 0, 0, 0, 0, 0, 0⟩)
    ∧ Ready (testPipe 0x3FFC (some 0xE1505001) none []) ∧ read32 (testPipe 0x3FFC none none []).mem 0x3FFC = .ok 0xFFFFFFFF
    ∧ decodeWord 0xE1505001 = none
    ∧ Ready (testPipe 0 none none []) ∧ read32 (testPipe 0 none none []).mem 0 = .ok 0xFFFFFFFF :=
  ⟨testPipe_ready .., rfl, by decide, testPipe_ready .., rfl, by decide, testPipe_ready .., rfl⟩

theorem witness_InstructionAtThePcRunsInTheCycleAfterItsFetch :
    Ready (testPipe 0 none none [0xE3A01001])
    ∧ read32 (testPipe 0 none none [0xE3A01001]).mem (testPipe 0 none none [0xE3A01001]).pc = .ok 0xE3A01001
    ∧ decodeWord 0xE3A01001 = some (.movImm ⟨0xE, 0, 0, 1, 0, 1⟩)
    ∧ ∃ t, step (testPipe 0 none none [0xE3A01001]) = .next t ∧ t.fault = none ∧ read32 t.mem t.pc = .ok 0xFFFFFFFF :=
  ⟨testPipe_ready .., rfl, by decide, _, rfl, rfl, rfl⟩

/-- A state whose pc and fault latch the placing must set aside. -/
theorem witness_PlacedWordRunsInTheVeryNextStep :
    ({ testPipe 0x4000 none none [] with fault := some (.unknownMnemonic .multiply 3) } : State).mem.wf
    ∧ decodeWord 0xE1A00000 = some (.movRegShiftImm ⟨0xE, 0, 0, 0, 0, 0, 0⟩) := by decide

/-- A word that decodes cleanly, the hole, an ambiguous word under the policy, and nothing in slot F. -/
theorem witness_CycleDecodesAndRendersTheWordInSlotF :
    (Ready (testPipe 4 (some 0xE1A00000) none [])
      ∧ (testPipe 4 (some 0xE1A00000) none []).slotF = some ⟨0, 0xE1A00000, none⟩
      ∧ read32 (testPipe 4 (some 0xE1A00000) none []).mem 4 = .ok 0xFFFFFFFF ∧ DecodesCleanly {} 0xE1A00000)
    ∧ ¬ DecodesCleanly {} 0xE0600090 ∧ ¬ DecodesCleanly { ambiguityFatal := true } 0xE1002091
    ∧ (Ready State.reset ∧ read32 State.reset.mem State.reset.pc = .ok (wordAt State.reset.mem 0) ∧ State.reset.slotF = none) :=
  ⟨⟨testPipe_ready .., rfl, rfl, by unfold DecodesCleanly isMultiplyHole; decide⟩,
    by unfold DecodesCleanly isMultiplyHole; decide, by unfold DecodesCleanly isMultiplyHole; decide,
    ⟨rfl, rfl, rfl⟩, rfl, rfl⟩

/-- No error, a decode error, and slot X occupied. -/
theorem witness_SuccessfulFetchShiftsAndAdvancesThePc :
    (Ready (testPipe 0x3FFC (some 0xE0010392) (some 0xE1A00000) [])
      ∧ read32 (testPipe 0x3FFC (some 0xE0010392) (some 0xE1A00000) []).mem 0x3FFC = .ok 0xFFFFFFFF)
    ∧ Ready (testPipe 8 (some 0xE0600090) (some 0xE0010392) [])
    ∧ read32 (testPipe 8 (some 0xE0600090) (some 0xE0010392) []).mem 8 = .ok 0xFFFFFFFF
    ∧ ({ testPipe 12 (some 0xE1A00000) none [] with slotX := some ⟨0, 0, some (classify 0)⟩ } : State).slotX.isSome :=
  ⟨⟨testPipe_ready .., rfl⟩, testPipe_ready .., rfl, rfl⟩

/-- A pipeline with F and D occupied meets the invariant, at the end of BIOS and before it. -/
theorem testPipe_inv (pc : Word) (w v : Word) (words : List Word) (h1 : pc.toNat % 4 = 0) (h2 : pc.toNat ≤ 0x4000)
    (h3 : pc - 4 + 4 = pc ∧ pc - 8 + 8 = pc) : PipeInv (testPipe pc (some w) (some v) words) where
  pcAligned := h1
  pcInBios := h2
  xEmpty _ := rfl
  fAddress I h := by cases h; exact ⟨h3.1, rfl⟩
  dAddress I h := by cases h; exact ⟨h3.2, rfl⟩
  dDecoded I h _ := by cases h; rfl
  xAddress I h := by cases h

theorem witness_FetchErrorLatchesAndChangesNothingElse :
    Ready (testPipe 0x4000 (some 0xFFFFFFFF) (some 0xFFFFFFFF) [])
    ∧ read32 (testPipe 0x4000 (some 0xFFFFFFFF) (some 0xFFFFFFFF) []).mem 0x4000
      = .error (.invalidMemoryAccess .outOfZone 0x4000)
    ∧ PipeInv (testPipe 0x4000 (some 0xFFFFFFFF) (some 0xFFFFFFFF) []) :=
  ⟨testPipe_ready .., rfl, testPipe_inv _ _ _ _ (by decide) (by decide) (by decide)⟩

/-- Each of the two decode errors. -/
theorem witness_DecodeFaultKeepsTheShiftAndLeavesXOccupied :
    (Ready (testPipe 8 (some 0xE0600090) (some 0xE0010392) [])
      ∧ read32 (testPipe 8 (some 0xE0600090) (some 0xE0010392) []).mem 8 = .ok 0xFFFFFFFF
      ∧ ¬ DecodesCleanly {} 0xE0600090)
    ∧ Ready { testPipe 8 (some 0xE1002091) none [] with params := { ambiguityFatal := true } }
    ∧ ¬ DecodesCleanly { ambiguityFatal := true } 0xE1002091 :=
  ⟨⟨testPipe_ready .., rfl, by unfold DecodesCleanly isMultiplyHole; decide⟩, ⟨rfl, rfl, rfl⟩,
    by unfold DecodesCleanly isMultiplyHole; decide⟩

/-- A cycle with no request, a requested one, and one that fetches nothing. -/
theorem witness_NoCycleExecutesAnything :
    (∃ t, step (testPipe 8 (some 0xE3A01001) (some 0xE1A00000) []) = .next t ∧ t.fault = none)
    ∧ (∃ t, step { testPipe 0 none none [] with requests := [.cycle ⟨true, false⟩] } = .next t ∧ t.fault = none)
    ∧ ∃ t, step (testPipe 0x4000 none none []) = .next t ∧ t.out.fetched = none :=
  ⟨⟨_, rfl, rfl⟩, ⟨_, rfl, rfl⟩, _, rfl, rfl⟩

/-- A requested cycle that completes, and one that finds the latch set. -/
theorem witness_RequestedCycleIsACycleUnderItsOptions :
    (∃ t, step { testPipe 4 (some 0xE1A00000) none [] with requests := [], options := ⟨true, true⟩ } = .next t)
    ∧ step { testPipe 0 none none [] with fault := some (.unknownMnemonic .multiply 3) }
      = .fault (.latched (.unknownMnemonic .multiply 3)) := ⟨⟨_, rfl⟩, rfl⟩

/-- With the latch set: a cycle, a command, a reset; and a command with it clear. -/
theorem witness_OnlyResetClearsTheFaultLatch :
    (∃ f, step { testPipe 0 none none [] with fault := some (.unknownMnemonic .multiply 3), requests := [.cycle ⟨false, false⟩] }
      = .fault f)
    ∧ (∃ t, step { testPipe 0 none none [] with fault := some (.unknownMnemonic .multiply 3), requests := [.command (.read8 0)] }
      = .next t ∧ t.fault = some (.unknownMnemonic .multiply 3))
    ∧ (∃ t, step { testPipe 0 none none [] with fault := some (.unknownMnemonic .multiply 3), requests := [.reset] }
      = .next t ∧ t.fault = none)
    ∧ ∃ t, step { testPipe 0 none none [] with requests := [.command (.write8 0x10000000 1)] } = .next t ∧ t.fault = none :=
  ⟨⟨_, rfl⟩, ⟨_, rfl, rfl⟩, ⟨_, rfl, rfl⟩, _, rfl, rfl⟩

/-- A request for a command; and for each of the eight functions that can fail, arguments on which it answers and arguments
on which it fails, each at the edge of what it accepts. -/
theorem witness_HostCommandTouchesMemoryAndReplyOnly :
    ({ State.reset with requests := [.command (.write8 3 7), .reset] } : State).requests = .command (.write8 3 7) :: [.reset]
    ∧ (serveCommand (.fresh 0) (.write8 3 7)) = ({ Memory.fresh 0 with cells := [(3, 7)] }, .done)
    ∧ (serveCommand { Memory.fresh 0 with cells := [(3, 7)] } (.read8 3)).2 = .byte 7
    ∧ (read8 (.fresh 0) 0x3FFF).isOk ∧ read8 (.fresh 0) 0x4000 = .error (.invalidMemoryAccess .outOfZone 0x4000)
    ∧ (read16 (.fresh 0) 0x3FFE).isOk ∧ read16 (.fresh 0) 0x3FFF = .error (.invalidMemoryAccess .outOfZone 0x4000)
    ∧ (read32 (.fresh 0) 0x3FFC).isOk ∧ read32 (.fresh 0) 0x3FFD = .error (.invalidMemoryAccess .outOfZone 0x4000)
    ∧ (write8 (.fresh 0) 0x3FFF 1).isOk ∧ write8 (.fresh 0) 0x10000000 1 = .error (.invalidMemoryAccess .busWidth 0x10000000)
    ∧ (writeBlock (.fresh 0) 0x3FFF [1]).isOk
    ∧ writeBlock (.fresh 0) 0x3FFF [1, 2] = .error (.invalidMemoryAccess .outOfZone 0x4001)
    ∧ (fill (.fresh 0) 0x3FFF 0x4000 1).isOk
    ∧ fill (.fresh 0) 0x3FFF 0x3FFF 1 = .error (.invalidMemoryAccess .reversedOrEmptyRange 0x3FFF)
    ∧ (loadBios (.fresh 0) [1]).isOk ∧ (loadRom (.fresh 0) [1]).isOk := by decide

/-- The loads that fail: an image one byte too long. -/
theorem witness_HostCommandTouchesMemoryAndReplyOnly_oversized :
    loadBios (.fresh 0) (List.replicate 16385 0) = .error (.loadingError .bios 16385 16384)
    ∧ loadRom (.fresh 0) (List.replicate 33554433 0) = .error (.loadingError .rom 33554433 33554432) := by
  constructor
  all_goals
    simp only [loadBios, loadRom, loadBuffer, List.length_replicate, Buffer.size]
    exact if_pos (by decide)

/-- The last word of BIOS. -/
theorem witness_HostWriteIsSeenByTheNextFetchOnly :
    let s := { testPipe 0x3FFC (some 0xE1A00000) none [] with
      requests := [.command (.writeBlock 0x3FFC (bytesOfWord 0xE12FFF1E))] }
    s.mem.wf ∧ s.requests = [.command (.writeBlock s.pc (bytesOfWord 0xE12FFF1E))] ∧ s.fault = none ∧ s.slotX = none
      ∧ s.pc.toNat + 4 ≤ 0x4000 := ⟨by decide, rfl, rfl, rfl, by decide⟩

/-- A state that a decode fault has left; the reset is the only request. -/
theorem witness_HostResetGivesTheResetValues :
    ∃ t, step { testPipe 12 (some 0xE1A00000) (some 0xE0600090) [] with
        slotX := some ⟨0, 0, none⟩, fault := some (.unknownMnemonic .multiply 3), requests := [.reset] } = .next t
      ∧ t.fault = none := ⟨_, rfl, rfl⟩

theorem witness_EveryStepKeepsThePipelineInvariant :
    PipeInv (testPipe 8 (some 0xE0600090) (some 0xE0010392) [])
    ∧ (∃ t, step (testPipe 8 (some 0xE0600090) (some 0xE0010392) []) = .next t ∧ t.fault.isSome)
    ∧ PipeInv (testPipe 0x3FFC (some 0xE1A00000) (some 0xE0010392) [])
    ∧ ∃ t, step (testPipe 0x3FFC (some 0xE1A00000) (some 0xE0010392) []) = .next t ∧ t.fault = none :=
  ⟨testPipe_inv _ _ _ _ (by decide) (by decide) (by decide), ⟨_, rfl, rfl⟩,
    testPipe_inv _ _ _ _ (by decide) (by decide) (by decide), _, rfl, rfl⟩

theorem witness_EveryStepKeepsTheInertRegistersZero :
    InertZero (testPipe 8 (some 0xE3A01001) (some 0xEB000010) [])
    ∧ ∃ t, step (testPipe 8 (some 0xE3A01001) (some 0xEB000010) []) = .next t ∧ t.fault = none :=
  ⟨⟨by decide, rfl, rfl⟩, _, rfl, rfl⟩

/-- A write, a fill that removes an entry, a load and a cycle. -/
theorem witness_EveryStepKeepsTheMemoryCanonical :
    (testPipe 0 none none [0xE3A01001]).mem.wf
    ∧ ∀ r ∈ [Request.command (.write8 5 9), .command (.fill 0 2 0xFFFFFFFF), .command (.loadBios [1]), .cycle ⟨true, true⟩],
      ∃ t, step { testPipe 0 none none [0xE3A01001] with requests := [r] } = .next t := by
  refine ⟨by decide, fun r hr => ?_⟩
  fin_cases hr <;> exact ⟨_, rfl⟩

/-- Three clean words at the entry, then ones; the statement's k at 1 and at 4. -/
theorem witness_ScheduleAfterReset :
    let s := testPipe 0 none none [0xE1A00000, 0xE3A01001, 0xEAFFFFFB]
    Ready s ∧ s.pc = 0 ∧ s.slotF = none ∧ s.slotD = none
      ∧ ∀ j, j + 1 < 4 → DecodesCleanly s.params (wordAt s.mem (4 * j)) := by
  refine ⟨testPipe_ready .., rfl, rfl, rfl, fun j hj => ?_⟩
  obtain rfl | rfl | rfl : j = 0 ∨ j = 1 ∨ j = 2 := by omega
  all_goals unfold DecodesCleanly isMultiplyHole; decide

/-- The largest k: the ones that a load of an empty image leaves decode cleanly throughout. -/
theorem witness_ScheduleAfterReset_last :
    let s := testPipe 0 none none []
    Ready s ∧ s.pc = 0 ∧ s.slotF = none ∧ s.slotD = none
      ∧ ∀ j, j + 1 < 4096 → DecodesCleanly s.params (wordAt s.mem (4 * j)) := by
  refine ⟨testPipe_ready .., rfl, rfl, rfl, fun j hj => ?_⟩
  have h : ∀ a, a < 0x4000 → byteAt (testPipe 0 none none []).mem a = 0xFF := fun a ha => by
    have hz : zone a = 0 := by unfold zone; omega
    have hc : cellOf a = some a := by
      simp [cellOf, locate, busOk, offset, hz, zoneBase, zoneSize, zoneRow, ha, Buffer.firstCell]
      omega
    simp only [byteAt, hc]
    rw [show (testPipe 0 none none []).mem = clearBuffer (.fresh 0) .bios from rfl, clearBuffer_get, if_pos]
    simp [Buffer.holds, Buffer.firstCell, Buffer.size, ha]
  simp only [wordAt, h (4 * j) (by omega), h (4 * j + 1) (by omega), h (4 * j + 2) (by omega), h (4 * j + 3) (by omega)]
  unfold DecodesCleanly isMultiplyHole; decide

/-- Two different states, one that steps on and one that stops. -/
theorem witness_NoStepReadsTheInertRegisters :
    SameButInert (testPipe 4 (some 0xE3A01001) none []) ((testPipe 4 (some 0xE3A01001) none []).writeReg 1 7)
    ∧ testPipe 4 (some 0xE3A01001) none [] ≠ (testPipe 4 (some 0xE3A01001) none []).writeReg 1 7
    ∧ (∃ t, step (testPipe 4 (some 0xE3A01001) none []) = .next t)
    ∧ ∃ f, step { testPipe 4 none none [] with fault := some (.unknownMnemonic .multiply 3) } = .fault f :=
  ⟨⟨rfl, rfl, rfl, rfl, rfl, rfl, rfl, rfl, rfl, rfl, rfl⟩, by decide, ⟨_, rfl⟩, _, rfl⟩

/-- The two ends of every zone, the first address past each, and the ends of the bus. -/
theorem witness_SingleAddressValidationFollowsTheZoneTable :
    (∀ a ∈ [0, 0x3FFF, 0x02000000, 0x0203FFFF, 0x03000000, 0x03007FFF, 0x04000000, 0x040003FE, 0x05000000, 0x050003FF,
      0x06000000, 0x06017FFF, 0x07000000, 0x070003FF, 0x08000000, 0x0DFFFFFF, 0x0E000000, 0x0E00FFFF], validAddress a)
    ∧ (∀ a ∈ [0x4000, 0x01000000, 0x02040000, 0x03008000, 0x040003FF, 0x05000400, 0x06018000, 0x07000400, 0x0E010000,
      0x0F000000, 0x0FFFFFFF], a < 0x10000000 ∧ ¬ validAddress a)
    ∧ (0x10000000 : Nat) ≤ 0x10000000 := by
  unfold validAddress; decide

theorem witness_RomWindowsAreMirrorsAndNothingElseAliases :
    (0xFFFFFF : Nat) < 0x1000000 ∧ (2 : Nat) < 3
    ∧ locate 0x08FFFFFF = some (.rom, 0xFFFFFF) ∧ locate 0x0CFFFFFF = some (.rom, 0xFFFFFF)
    ∧ locate 0x09000000 = locate 0x0D000000
    ∧ Memory.wf (.fresh 0) ∧ write8 (.fresh 0) 0x08000000 0x5A = .ok { Memory.fresh 0 with cells := [(0x08000000, 0x5A)] }
    ∧ locate (0x0A000000 : Word).toNat = locate (0x08000000 : Word).toNat := by decide

/-- Accepted: across each pair of zones, an end equal to base + size, the shortest range. Rejected, one input for each clause
at its boundary: empty and reversed, a start and an end past the bus, unpaired zones (adjacent, and the same half of two
windows), an offset past its zone at the start and at the end; and ends on zone starts. -/
theorem witness_AcceptedRangeHoldsValidConsecutiveBytes :
    (∀ r ∈ [(0x08000000, 0x09FFFFFF), (0x0AFFFFFF, 0x0B000000), (0x0CFFFFFF, 0x0D000001), (0x02000000, 0x02040000),
      (0x3FFF, 0x4000)], r.1 < r.2 ∧ r.2 < 0x10000000 ∧ sameZoneOrPair r.1 r.2 ∧ offsetWithinZone r.1
        ∧ offsetWithinZone r.2 ∧ rangeCheck r.1 r.2 = none)
    ∧ (0x02000010 : Nat) ≤ 0x02000010 ∧ (0x02000008 : Nat) ≤ 0x02000010
    ∧ (0x10000000 : Nat) < 0x10000001 ∧ (0x0FFFFFFF : Nat) < 0x10000000
    ∧ (∀ r ∈ [(0x09FFFFF0, 0x0A000010), (0x08000000, 0x0A000000), (0x02000000, 0x03000000), (0x0DFFFFFF, 0x0E000000)],
      r.1 < r.2 ∧ r.2 < 0x10000000 ∧ ¬ sameZoneOrPair r.1 r.2)
    ∧ (sameZoneOrPair 0x02040001 0x02040002 ∧ ¬ offsetWithinZone 0x02040001)
    ∧ (sameZoneOrPair 0x02000000 0x02040001 ∧ offsetWithinZone 0x02000000 ∧ ¬ offsetWithinZone 0x02040001)
    ∧ (0x0DFFFFFF : Nat) < 14 * 0x1000000 ∧ (0 : Nat) < 1 * 0x1000000 := by
  unfold sameZoneOrPair offsetWithinZone; decide

/-- Accepted: the last access of a zone, and one across a pair. Rejected, one input for each clause: the bus, the first byte,
the last byte, and the windows 9 and 10 (R133's `read32` at 0x09FFFFFE). -/
theorem witness_AcceptedAccessHoldsValidConsecutiveBytes :
    (validAddress 0x0203FFFC ∧ validAddress (0x0203FFFC + 4 - 1) ∧ accessCheck 0x0203FFFC 4 = none)
    ∧ (sameZoneOrPair 0x08FFFFFF (0x08FFFFFF + 2 - 1) ∧ accessCheck 0x08FFFFFF 2 = none)
    ∧ (0x10000000 : Nat) ≤ 0x10000000 ∧ ¬ validAddress 0x0FFFFFFF
    ∧ (validAddress 0x0203FFFD ∧ ¬ validAddress (0x0203FFFD + 4 - 1))
    ∧ validAddress 0x09FFFFFE ∧ validAddress (0x09FFFFFE + 4 - 1) ∧ ¬ sameZoneOrPair 0x09FFFFFE (0x09FFFFFE + 4 - 1)
    ∧ accessCheck 0x09FFFFFE 4 = some (.invalidMemoryAccess .crossZoneRange 0x0A000001) := by
  and_intros <;> first | decide | (unfold validAddress; decide) | (unfold sameZoneOrPair; decide)

/-- The first and the last valid address, the first address past a zone, the first past the bus. -/
theorem witness_ReadByteAnswersTheLocatedByte :
    validAddress (0 : Word).toNat ∧ validAddress (0x0E00FFFF : Word).toNat
    ∧ ((0x4000 : Word).toNat < 0x10000000 ∧ ¬ validAddress (0x4000 : Word).toNat)
    ∧ 0x10000000 ≤ (0x10000000 : Word).toNat
    ∧ read8 { Memory.fresh 0 with cells := [(0x0E00FFFF, 7)] } 0x0E00FFFF = .ok 7 := by
  unfold validAddress; decide

theorem witness_MultiByteReadsAreLittleEndian :
    accessCheck (0x3FFE : Word).toNat 2 = none ∧ accessCheck (0x3FFC : Word).toNat 4 = none
    ∧ read32 (clearBuffer (.fresh 0) .bios) 0x3FFC = .ok 0xFFFFFFFF ∧ read16 (clearBuffer (.fresh 0) .bios) 0x3FFC = .ok 0xFFFF
    ∧ accessCheck (0x3FFF : Word).toNat 2 = some (.invalidMemoryAccess .outOfZone 0x4000)
    ∧ accessCheck (0xFFFFFFFF : Word).toNat 4 = some (.invalidMemoryAccess .busWidth 0xFFFFFFFF) := by decide

theorem witness_WriteByteChangesExactlyTheLocatedByte :
    Memory.wf { Memory.fresh 0 with cells := [(0x040003FE, 1)] } ∧ validAddress (0x040003FE : Word).toNat
    ∧ singleCheck (0x040003FF : Word).toNat = some (.invalidMemoryAccess .outOfZone 0x040003FF)
    ∧ locate 0x040003FE ≠ locate (0x040003FD : Word).toNat := by
  unfold validAddress; decide

/-- Up to the last byte of the I/O zone; one byte further; an empty block. -/
theorem witness_WriteBlockWritesItsRangeAndNothingElse :
    Memory.wf (.fresh 0) ∧ rangeCheck (0x040003FC : Word).toNat ((0x040003FC : Word).toNat + [1, 2, 3].length) = none
    ∧ rangeCheck (0x040003FC : Word).toNat ((0x040003FC : Word).toNat + [1, 2, 3, 4].length)
      = some (.invalidMemoryAccess .outOfZone 0x04000400)
    ∧ rangeCheck (0x02000000 : Word).toNat ((0x02000000 : Word).toNat + ([] : List Byte).length)
      = some (.invalidMemoryAccess .reversedOrEmptyRange 0x02000000) := by decide

theorem witness_FillRepeatsThePatternOverItsRange :
    Memory.wf (.fresh 0) ∧ rangeCheck (0x03007FFC : Word).toNat (0x03008000 : Word).toNat = none
    ∧ rangeCheck (0x03007FFC : Word).toNat (0x03008001 : Word).toNat
      = some (.invalidMemoryAccess .outOfZone 0x03008001) := by decide

/-- The first zone, the last byte of the I/O zone, and the empty zones. -/
theorem witness_DumpIsTheBytesOfTheZoneInOrder :
    0 < zoneSize (0 : Fin 16).val ∧ 0x3FE < zoneSize (4 : Fin 16).val ∧ zoneSize (1 : Fin 16).val = 0
    ∧ zoneSize (15 : Fin 16).val = 0 := by decide

/-- An image of exactly the size of BIOS, and one byte more. -/
theorem witness_BiosLoadFillsThenCopiesTheImage :
    Memory.wf { Memory.fresh 0 with cells := [(2, 0)] } ∧ (List.replicate 16384 (0 : Byte)).length ≤ 16384
    ∧ ([1] : List Byte).length ≤ 16383 ∧ 16384 < (List.replicate 16385 (0 : Byte)).length :=
  ⟨by decide, by rw [List.length_replicate], by decide, by rw [List.length_replicate]; decide⟩

theorem witness_RomLoadIsSeenThroughAllThreeWindows :
    Memory.wf { Memory.fresh 0 with cells := [(0x08000001, 0)] } ∧ (List.replicate 33554432 (0 : Byte)).length ≤ 33554432
    ∧ ([1] : List Byte).length ≤ 33554431 ∧ 33554432 < (List.replicate 33554433 (0 : Byte)).length :=
  ⟨by decide, by rw [List.length_replicate], by decide, by rw [List.length_replicate]; decide⟩

/-- A buffer not yet marked, and one marked before. -/
theorem witness_ClearingABufferIsFillingItWithOnes :
    let m := { Memory.fresh 0 with cells := [(0, 1), (0x040003FE, 2)] }
    m.wf ∧ (clearBuffer m .io).cells = [(0, 1)] ∧ (clearBuffer m .io).wf
      ∧ (clearBuffer m .io).filled[Buffer.io.index] = true := by decide

/-- A command that fails and a fetch that fails. -/
theorem witness_FailedOperationChangesNoBuffer :
    (serveCommand (.fresh 0) (.write8 0x05000400 1)).2 = .failed (.invalidMemoryAccess .outOfZone 0x05000400)
    ∧ Ready (testPipe 0x4000 none none [])
    ∧ read32 (testPipe 0x4000 none none []).mem 0x4000 = .error (.invalidMemoryAccess .outOfZone 0x4000) :=
  ⟨by decide, testPipe_ready .., rfl⟩

/-- Over a memory with a written byte and a load: a reset, a write, a load with the last cell of BIOS and the first past it,
a command that stores nothing, and a cycle. -/
theorem witness_EveryByteIsFreeUntilALoadOrAWriteGivesIt :
    let s := { testPipe 0 none none [0xE3A01001] with requests := [.reset] }
    s.requests = .reset :: [] ∧ s.mem.known 0 = some 0x01 ∧ s.mem.known 0x3FFF = some 0xFF ∧ s.mem.known 0x02000000 = none
    ∧ s.mem.wf ∧ ([1] : List Byte).length ≤ 16384
    ∧ (∃ t, step s = .next t ∧ t.mem.known 0 = none ∧ t.mem.known 0x3FFF = none)
    ∧ (∃ t, step { s with requests := [.command (.write8 0x02000000 9)] } = .next t ∧ t.mem.known 0x02000000 = some 9)
    ∧ (∃ t, step { s with requests := [.command (.read8 0x02000000)] } = .next t ∧ t.mem.known 0x02000000 = none)
    ∧ ∃ t, step { s with requests := [] } = .next t ∧ t.mem = s.mem :=
  ⟨rfl, by decide, by decide, by decide, by decide, by decide, ⟨_, rfl, by decide, by decide⟩, ⟨_, rfl, by decide⟩,
    ⟨_, rfl, by decide⟩, _, rfl, rfl⟩
end

section
/-! The state after reset, field by field (R21): each array is a constant one, so a read of it at any index is 0. -/

namespace Sys2Proof.Machine

theorem State.readReg_reset (r : Fin 16) : State.reset.readReg r = 0 :=
  Vector.getElem_replicate r.isLt

theorem State.pc_reset : State.reset.pc = 0 := State.readReg_reset 15

theorem BankedRegisters.fiq_zero (k : Fin 7) : BankedRegisters.zero.fiq[k] = 0 :=
  Vector.getElem_replicate k.isLt

/-- The four modes that bank r13 and r14 only. -/
theorem BankedRegisters.twoRegisterBanks_zero (k : Fin 2) :
    BankedRegisters.zero.svc[k] = 0 ∧ BankedRegisters.zero.abt[k] = 0 ∧ BankedRegisters.zero.irq[k] = 0
      ∧ BankedRegisters.zero.und[k] = 0 :=
  have read_zero : (Vector.replicate 2 (0 : Word))[k] = 0 := Vector.getElem_replicate k.isLt
  ⟨read_zero, read_zero, read_zero, read_zero⟩

/-- Settles O38: the arrays by the reads above, the status registers, the slots and the latch by their values in
`State.reset`. -/
theorem stateAfterResetIsAsTheSpecSays : Obligations.StateAfterResetIsAsTheSpecSays :=
  ⟨State.readReg_reset, State.pc_reset, BankedRegisters.fiq_zero, BankedRegisters.twoRegisterBanks_zero,
    rfl, rfl, rfl, rfl, rfl⟩

end Sys2Proof.Machine
end

section
/-! The zone mapper by its inverse (R31 to R34): a buffer's byte `i` stands at `w + i` for each window `w` of the buffer, and
nowhere else. From that: which addresses are valid and which are aliases, what the three checks answer (R35, R36, R38), that
what they accept lies in one window, so at consecutive indices of one buffer, and what the multi-byte reads answer (R39). -/

namespace Sys2Proof.Machine

/-- The bus addresses of a buffer's byte 0: one for every buffer, and the three mirrors of the ROM (R34). -/
def Buffer.windows : Buffer → List Nat
  | .rom => [0x08000000, 0x0A000000, 0x0C000000]
  | b => [b.firstCell]

/-- An offset inside a mapped zone locates the byte at that offset from the zone's start index (R33). -/
theorem locate_zoneBase_add {z o : Nat} {b : Buffer} {start : Nat} (hz : z < 16) (ho : o < zoneSize z)
    (hb : (zoneRow z).backing = some (b, start)) : locate (zoneBase z + o) = some (b, start + o) := by
  have hsize : zoneSize z ≤ 0x1000000 := by interval_cases z <;> decide
  have hzone : zone (zoneBase z + o) = z := by unfold zone zoneBase; omega
  have hoffset : offset (zoneBase z + o) = o := by rw [offset, hzone]; omega
  have hbus : busOk (zoneBase z + o) = true := by unfold zoneBase at *; simp only [busOk, decide_eq_true_eq]; omega
  simp [locate, hzone, hoffset, hbus, ho, hb]

/-- A located address is an offset inside a mapped zone (R33). -/
theorem exists_zone_of_locate {a : Nat} {b : Buffer} {i : Nat} (h : locate a = some (b, i)) :
    ∃ z o start, z < 16 ∧ o < zoneSize z ∧ (zoneRow z).backing = some (b, start) ∧ a = zoneBase z + o ∧ i = start + o := by
  unfold locate at h
  split at h
  · rename_i hv
    obtain ⟨⟨d, start⟩, hb, hd⟩ := Option.map_eq_some_iff.mp h
    obtain ⟨rfl, rfl⟩ := Prod.mk.inj hd
    have hbase : a = zoneBase (zone a) + offset a := by
      simp only [offset, zoneBase, zone, busOk, decide_eq_true_eq] at *
      omega
    exact ⟨zone a, offset a, start, zone_lt a, hv.2, hb, hbase, rfl⟩
  · cases h

/-- A mapped zone stands in one of the windows of its buffer, as far from its begin as the zone's start index (R32). -/
theorem zoneBase_mem_windows {z : Nat} {b : Buffer} {start : Nat} (hb : (zoneRow z).backing = some (b, start)) :
    ∃ w ∈ b.windows, zoneBase z = w + start := by
  unfold zoneRow at hb
  split at hb <;> cases hb <;> decide

/-- The zone at the begin of a window holds the buffer's bytes from index 0, up to the zone's 0x1000000 addresses (R32). -/
theorem zoneRow_of_window {b : Buffer} {w : Nat} (hw : w ∈ b.windows) :
    w / 0x1000000 < 16 ∧ zoneRow (w / 0x1000000) = ⟨min b.size 0x1000000, some (b, 0)⟩
      ∧ zoneBase (w / 0x1000000) = w := by
  revert w
  cases b <;> decide

/-- The zone after the begin of a ROM window holds the upper half of the ROM (R32). -/
theorem zoneRow_of_rom_window {w : Nat} (hw : w ∈ Buffer.rom.windows) :
    w / 0x1000000 + 1 < 16 ∧ zoneRow (w / 0x1000000 + 1) = ⟨0x1000000, some (.rom, 0x1000000)⟩
      ∧ zoneBase (w / 0x1000000 + 1) = w + 0x1000000 := by
  revert w
  decide

/-- Only the ROM has more bytes than one zone has addresses (R17, R32). -/
theorem Buffer.eq_rom_of_size {b : Buffer} (h : 0x1000000 < b.size) : b = .rom := by
  revert h
  cases b <;> decide

/-- In each of its windows, a buffer's byte `i` stands at the address `w + i` (R33, R34). -/
theorem locate_window_add {b : Buffer} {w i : Nat} (hw : w ∈ b.windows) (hi : i < b.size) :
    locate (w + i) = some (b, i) := by
  by_cases hlow : i < 0x1000000
  · obtain ⟨hz, hrow, hbase⟩ := zoneRow_of_window hw
    have := locate_zoneBase_add (o := i) hz (by rw [zoneSize, hrow]; exact lt_min hi hlow) (by rw [hrow])
    rwa [hbase, Nat.zero_add] at this
  · obtain rfl : b = .rom := Buffer.eq_rom_of_size (by omega)
    obtain ⟨hz, hrow, hbase⟩ := zoneRow_of_rom_window hw
    have := locate_zoneBase_add (o := i - 0x1000000) hz
      (by simp only [zoneSize, hrow, Buffer.size] at hi ⊢; omega) (by rw [hrow])
    rwa [hbase, Nat.add_assoc, Nat.add_sub_cancel' (Nat.le_of_not_lt hlow)] at this

/-- Where the bytes of the buffers stand on the bus: at each window and nowhere else (R33, R34). -/
theorem locate_eq_some_iff {a : Nat} {b : Buffer} {i : Nat} :
    locate a = some (b, i) ↔ i < b.size ∧ ∃ w ∈ b.windows, a = w + i := by
  constructor
  · intro h
    obtain ⟨z, o, start, -, -, hb, rfl, rfl⟩ := exists_zone_of_locate h
    obtain ⟨w, hw, hbase⟩ := zoneBase_mem_windows hb
    exact ⟨locate_lt_size h, w, hw, by omega⟩
  · rintro ⟨hi, w, hw, rfl⟩
    exact locate_window_add hw hi

/-! ## Addresses of one window -/

/-- The addresses from `a` to `c` stand in one window of one buffer. -/
def WithinOneWindow (a c : Nat) : Prop := ∃ b : Buffer, ∃ w ∈ b.windows, w ≤ a ∧ c < w + b.size

/-- The windows and their sizes, written out (R32). -/
theorem Buffer.window_bounds {b : Buffer} {w : Nat} (hw : w ∈ b.windows) :
    w = 0 ∧ b.size = 0x4000 ∨ w = 0x02000000 ∧ b.size = 0x40000 ∨ w = 0x03000000 ∧ b.size = 0x8000
    ∨ w = 0x04000000 ∧ b.size = 0x3FF ∨ w = 0x05000000 ∧ b.size = 0x400 ∨ w = 0x06000000 ∧ b.size = 0x18000
    ∨ w = 0x07000000 ∧ b.size = 0x400 ∨ w = 0x08000000 ∧ b.size = 0x2000000 ∨ w = 0x0A000000 ∧ b.size = 0x2000000
    ∨ w = 0x0C000000 ∧ b.size = 0x2000000 ∨ w = 0x0E000000 ∧ b.size = 0x10000 := by
  revert w
  cases b <;> decide

/-- An address is valid exactly if it stands in some window: the three of the ROM adjoin (R34, R50). -/
theorem validAddress_iff_withinOneWindow (a : Nat) : validAddress a ↔ WithinOneWindow a a := by
  constructor
  · rintro (h | h | h | h | h | h | h | h | h)
    · exact ⟨.bios, 0, by decide, a.zero_le, h⟩
    · exact ⟨.ewram, 0x02000000, by decide, h⟩
    · exact ⟨.iwram, 0x03000000, by decide, h⟩
    · exact ⟨.io, 0x04000000, by decide, h⟩
    · exact ⟨.pal, 0x05000000, by decide, h⟩
    · exact ⟨.vram, 0x06000000, by decide, h⟩
    · exact ⟨.oam, 0x07000000, by decide, h⟩
    · by_cases h10 : a < 0x0A000000
      · exact ⟨.rom, 0x08000000, by decide, h.1, h10⟩
      · by_cases h12 : a < 0x0C000000
        · exact ⟨.rom, 0x0A000000, by decide, Nat.le_of_not_lt h10, h12⟩
        · exact ⟨.rom, 0x0C000000, by decide, Nat.le_of_not_lt h12, h.2⟩
    · exact ⟨.sram, 0x0E000000, by decide, h⟩
  · rintro ⟨b, w, hw, hle, hlt⟩
    have hbounds := Buffer.window_bounds hw
    unfold validAddress
    omega

/-- The pairs are the neighbours of the even ROM zones (R36). -/
theorem sameZoneOrPair_iff_div (a c : Nat) : sameZoneOrPair a c ↔
    a / 0x1000000 = c / 0x1000000 ∨ c / 0x1000000 = a / 0x1000000 + 1
      ∧ (a / 0x1000000 = 8 ∨ a / 0x1000000 = 10 ∨ a / 0x1000000 = 12) := by
  simp only [sameZoneOrPair, List.mem_cons, Prod.mk.injEq, List.not_mem_nil, or_false]
  omega

/-- The zones of two addresses of one window are the same or a pair (R32, R36). -/
theorem sameZoneOrPair_of_window {b : Buffer} {w a c : Nat} (hw : w ∈ b.windows) (hle : w ≤ a) (hac : a ≤ c)
    (hlt : c < w + b.size) : sameZoneOrPair a c := by
  rw [sameZoneOrPair_iff_div]
  rcases Buffer.window_bounds hw with h | h | h | h | h | h | h | h | h | h | h <;> omega

/-- A valid address in the zone of a window's address, or in the zone paired with it, stands in that window (R32, R36). -/
theorem lt_window_end_of_sameZoneOrPair {b : Buffer} {w a c : Nat} (hw : w ∈ b.windows) (hlt : a < w + b.size)
    (hc : validAddress c) (hzones : sameZoneOrPair a c) : c < w + b.size := by
  rw [sameZoneOrPair_iff_div] at hzones
  unfold validAddress at hc
  rcases Buffer.window_bounds hw with h | h | h | h | h | h | h | h | h | h | h <;> omega

/-- Two addresses stand in one window exactly if both are valid and their zones are the same or a pair (R36, R38). -/
theorem withinOneWindow_iff_sameZoneOrPair {a c : Nat} (hac : a ≤ c) :
    WithinOneWindow a c ↔ validAddress a ∧ validAddress c ∧ sameZoneOrPair a c := by
  simp only [validAddress_iff_withinOneWindow a]
  constructor
  · rintro ⟨b, w, hw, hle, hlt⟩
    exact ⟨⟨b, w, hw, hle, by omega⟩, (validAddress_iff_withinOneWindow c).mpr ⟨b, w, hw, by omega, hlt⟩,
      sameZoneOrPair_of_window hw hle hac hlt⟩
  · rintro ⟨⟨b, w, hw, hle, hlt⟩, hc, hzones⟩
    exact ⟨b, w, hw, hle, lt_window_end_of_sameZoneOrPair hw hlt hc hzones⟩

/-- Bytes of one window, and no others, lie at consecutive indices of one buffer (R33, R38). -/
theorem withinOneWindow_iff_consecutive {a n : Nat} (hn : 0 < n) :
    WithinOneWindow a (a + n - 1) ↔ ∃ b i, ∀ k, k < n → locate (a + k) = some (b, i + k) := by
  constructor
  · rintro ⟨b, w, hw, hle, hlt⟩
    refine ⟨b, a - w, fun k hk => ?_⟩
    have := locate_window_add hw (i := a - w + k) (by omega)
    rwa [← Nat.add_assoc, Nat.add_sub_cancel' hle] at this
  · rintro ⟨b, i, h⟩
    obtain ⟨-, w, hw, hfirst⟩ := locate_eq_some_iff.mp (h 0 hn)
    obtain ⟨hsize, v, hv, hlast⟩ := locate_eq_some_iff.mp (h (n - 1) (by omega))
    have hwv : w = v := by omega
    exact ⟨b, w, hw, by omega, by omega⟩

/-! ## The check of one address (R35) -/

theorem locate_isSome_iff (a : Nat) : (locate a).isSome ↔ validAddress a := by
  rw [validAddress_iff_withinOneWindow, Option.isSome_iff_exists]
  constructor
  · rintro ⟨⟨b, i⟩, h⟩
    obtain ⟨hi, w, hw, rfl⟩ := locate_eq_some_iff.mp h
    exact ⟨b, w, hw, by omega, by omega⟩
  · rintro ⟨b, w, hw, hle, hlt⟩
    exact ⟨(b, a - w), locate_eq_some_iff.mpr ⟨by omega, w, hw, by omega⟩⟩

theorem singleCheck_eq_none_iff_validAddress (a : Nat) : singleCheck a = none ↔ validAddress a := by
  rw [singleCheck_none_iff, cellOf, Option.isSome_map, locate_isSome_iff]

theorem singleCheck_of_busWidth {a : Nat} (h : 0x10000000 ≤ a) :
    singleCheck a = some (.invalidMemoryAccess .busWidth a) := by
  simp [singleCheck, busOk, h]

/-- Below the bus width, the check compares the offset with the size of the zone (R35). -/
theorem singleCheck_of_lt {a : Nat} (h : a < 0x10000000) : singleCheck a =
    if offset a ≥ zoneSize (zone a) then some (.invalidMemoryAccess .outOfZone a) else none := by
  simp [singleCheck, busOk, h]

theorem singleCheck_of_outOfZone {a : Nat} (h : a < 0x10000000) (hv : ¬ validAddress a) :
    singleCheck a = some (.invalidMemoryAccess .outOfZone a) := by
  rw [← singleCheck_eq_none_iff_validAddress, singleCheck_of_lt h] at hv
  rw [singleCheck_of_lt h]
  split_ifs with ho
  · rfl
  · exact absurd (if_neg ho) hv

theorem validAddress.lt_bus {a : Nat} (h : validAddress a) : a < 0x0E010000 := by
  unfold validAddress at h
  omega

/-- Settles O45: the zones' bounds are the windows of the buffers, and only a located address passes the check. -/
theorem singleAddressValidationFollowsTheZoneTable : Obligations.SingleAddressValidationFollowsTheZoneTable :=
  fun a => ⟨singleCheck_of_busWidth, singleCheck_of_outOfZone, (singleCheck_eq_none_iff_validAddress a).mpr⟩

/-! ## Aliases, and a byte written and read back (R34, R131, R134) -/

/-- The three windows of the ROM, `0x2000000` apart (R34). -/
theorem mem_rom_windows {k : Nat} (hk : k < 3) : 0x08000000 + k * 0x2000000 ∈ Buffer.rom.windows := by
  interval_cases k <;> decide

/-- Only the ROM has several windows, and two of them are one or two windows apart (R34). -/
theorem rom_of_two_windows (b : Buffer) : ∀ w ∈ b.windows, ∀ v ∈ b.windows, w ≠ v →
    b = .rom ∧ (w + 0x2000000 = v ∨ w + 0x4000000 = v ∨ v + 0x2000000 = w ∨ v + 0x4000000 = w) := by
  cases b <;> decide

theorem read8_of_valid {m : Memory} {a : Word} (h : singleCheck a.toNat = none) :
    read8 m a = .ok (byteAt m a.toNat) := by
  rw [read8, h]

/-- What an accepted `write8` leaves: the byte set at a valid address (R134). -/
theorem write8_eq_ok_iff {m m' : Memory} {a : Word} {v : Byte} :
    write8 m a v = .ok m' ↔ singleCheck a.toNat = none ∧ m' = setByteAt m a.toNat v := by
  unfold write8
  cases singleCheck a.toNat with
  | none => simp [eq_comm]
  | some e => simp

/-- A byte written through one address is read through every address that locates it (R34). -/
theorem read8_of_write8 {m m' : Memory} {a b : Word} {v : Byte} (hm : m.wf) (hw : write8 m a v = .ok m')
    (hl : locate b.toNat = locate a.toNat) : read8 m' b = .ok v := by
  obtain ⟨ha, rfl⟩ := write8_eq_ok_iff.mp hw
  have hcell : cellOf b.toNat = cellOf a.toNat := cellOf_eq_of_locate hl
  have hsome := (singleCheck_none_iff _).mp ha
  rw [read8_of_valid ((singleCheck_none_iff _).mpr (hcell ▸ hsome)), byteAt_setByteAt_same hm hsome hcell]

/-- Settles O46: the windows of the ROM hold its bytes in order, an alias is the same index in another window, and reads
and writes go by the location. -/
theorem romWindowsAreMirrorsAndNothingElseAliases : Obligations.RomWindowsAreMirrorsAndNothingElseAliases := by
  refine ⟨fun o ho k hk => ⟨?_, ?_⟩, fun a b l ha hb hne => ?_, fun m m' a b v => read8_of_write8⟩
  · exact locate_window_add (mem_rom_windows hk) (by simp only [Buffer.size]; omega)
  · have := locate_window_add (i := 0x1000000 + o) (mem_rom_windows hk) (by simp only [Buffer.size]; omega)
    rwa [← Nat.add_assoc, Nat.add_right_comm 0x08000000] at this
  · obtain ⟨-, w, hw, rfl⟩ := locate_eq_some_iff.mp ha
    obtain ⟨-, v, hv, rfl⟩ := locate_eq_some_iff.mp hb
    obtain ⟨hrom, happart⟩ := rom_of_two_windows l.1 w hw v hv fun h => hne (by rw [h])
    exact ⟨hrom, by omega⟩

/-! ## The check of a range (R36) -/

theorem zone_eq_div {a : Nat} (h : a < 0x10000000) : zone a = a / 0x1000000 := by
  unfold zone
  omega

theorem offset_eq_mod {a : Nat} (h : a < 0x10000000) : offset a = a % 0x1000000 := by
  rw [offset, zone_eq_div h, zoneBase]
  omega

/-- The zone table's sizes, as the statements write them out (R32, R51). -/
theorem zoneSize_eq_getD {z : Nat} (h : z < 16) : zoneSize z = sixteenZoneSizes.getD z 0 := by
  interval_cases z <;> rfl

theorem offsetWithinZone_iff {a : Nat} (h : a < 0x10000000) : offsetWithinZone a ↔ offset a ≤ zoneSize (zone a) := by
  rw [offsetWithinZone, offset_eq_mod h, zoneSize_eq_getD (zone_lt a), zone_eq_div h]

theorem sameZoneOrPair_iff {a c : Nat} (ha : a < 0x10000000) (hc : c < 0x10000000) :
    sameZoneOrPair a c ↔ zone a = zone c ∨ paired (zone a) (zone c) = true := by
  rw [sameZoneOrPair_iff_div, zone_eq_div ha, zone_eq_div hc, paired, decide_eq_true_eq]
  omega

open Classical in
/-- The range check below the bus width, its three last checks in R36's order. -/
theorem rangeCheck_of_lt {a c : Nat} (hac : a < c) (hc : c < 0x10000000) :
    rangeCheck a c =
      if ¬ sameZoneOrPair a c then some (.invalidMemoryAccess .crossZoneRange c)
      else if ¬ offsetWithinZone a then some (.invalidMemoryAccess .outOfZone a)
      else if ¬ offsetWithinZone c then some (.invalidMemoryAccess .outOfZone c)
      else none := by
  have ha : a < 0x10000000 := Nat.lt_trans hac hc
  simp [rangeCheck, busOk, ha, hc, Nat.not_le.mpr hac, sameZoneOrPair_iff ha hc, offsetWithinZone_iff ha,
    offsetWithinZone_iff hc]

theorem rangeCheck_of_reversed {a c : Nat} (h : c ≤ a) :
    rangeCheck a c = some (.invalidMemoryAccess .reversedOrEmptyRange a) := by
  simp [rangeCheck, h]

theorem rangeCheck_of_busWidth_start {a c : Nat} (hac : a < c) (ha : 0x10000000 ≤ a) :
    rangeCheck a c = some (.invalidMemoryAccess .busWidth a) := by
  simp [rangeCheck, busOk, Nat.not_le.mpr hac, ha]

theorem rangeCheck_of_busWidth_end {a c : Nat} (hac : a < c) (ha : a < 0x10000000) (hc : 0x10000000 ≤ c) :
    rangeCheck a c = some (.invalidMemoryAccess .busWidth c) := by
  simp [rangeCheck, busOk, Nat.not_le.mpr hac, ha, hc]

theorem rangeCheck_eq_none_iff (a c : Nat) : rangeCheck a c = none ↔
    a < c ∧ c < 0x10000000 ∧ sameZoneOrPair a c ∧ offsetWithinZone a ∧ offsetWithinZone c := by
  by_cases hac : a < c
  · by_cases hc : c < 0x10000000
    · rw [rangeCheck_of_lt hac hc]
      split_ifs <;> simp [*]
    · by_cases ha : a < 0x10000000
      · simp [rangeCheck_of_busWidth_end hac ha (Nat.le_of_not_lt hc), hc]
      · simp [rangeCheck_of_busWidth_start hac (Nat.le_of_not_lt ha), hc]
  · simp [rangeCheck_of_reversed (Nat.le_of_not_lt hac), hac]

/-- Validity, as an offset below the size of its zone (R35). -/
theorem validAddress_iff_offset {a : Nat} (h : a < 0x10000000) :
    validAddress a ↔ a % 0x1000000 < sixteenZoneSizes.getD (a / 0x1000000) 0 := by
  rw [← singleCheck_eq_none_iff_validAddress, ← offset_eq_mod h, ← zone_eq_div h, ← zoneSize_eq_getD (zone_lt a),
    singleCheck_of_lt h]
  simp

/-- The bytes of an accepted range stand in one window: the end is exclusive, so the last byte is below its zone's size even
where the end is not (R36). -/
theorem withinOneWindow_of_accepted {a c : Nat} (h : rangeCheck a c = none) : WithinOneWindow a (c - 1) := by
  obtain ⟨hac, hc, hzones, hstart, hend⟩ := (rangeCheck_eq_none_iff a c).mp h
  rw [sameZoneOrPair_iff_div] at hzones
  rw [withinOneWindow_iff_sameZoneOrPair (by omega), sameZoneOrPair_iff_div]
  rcases hzones with hsame | hpair
  · have hlast : (c - 1) / 0x1000000 = c / 0x1000000 := by omega
    unfold offsetWithinZone at hend
    rw [validAddress_iff_offset (by omega), validAddress_iff_offset (by omega), hlast, hsame]
    exact ⟨by omega, by omega, .inl rfl⟩
  · have hrom : 0x08000000 ≤ a ∧ c < 0x0E000000 := by omega
    exact ⟨by unfold validAddress; omega, by unfold validAddress; omega, by omega⟩

/-- Settles O47: acceptance and errors by the branches of the check, the bytes by the window they share. -/
theorem acceptedRangeHoldsValidConsecutiveBytes : Obligations.AcceptedRangeHoldsValidConsecutiveBytes := by
  refine ⟨rangeCheck_eq_none_iff, fun a c => rangeCheck_of_reversed, fun a c hac => ⟨rangeCheck_of_busWidth_start hac,
    rangeCheck_of_busWidth_end hac, fun hc hz => ?_, fun hc hz ha => ?_, fun hc hz ha he => ?_⟩, fun a c h => ?_,
    fun a z hz h9 h11 h13 haz => ?_⟩
  · simp [rangeCheck_of_lt hac hc, hz]
  · simp [rangeCheck_of_lt hac hc, hz, ha]
  · simp [rangeCheck_of_lt hac hc, hz, ha, he]
  · have hac : a < c := ((rangeCheck_eq_none_iff a c).mp h).1
    rw [← withinOneWindow_iff_consecutive (by omega), Nat.add_sub_cancel' (Nat.le_of_lt hac)]
    exact withinOneWindow_of_accepted h
  · have hcross : ¬ sameZoneOrPair a (z * 0x1000000) := by
      rw [sameZoneOrPair_iff_div]
      omega
    simp [rangeCheck_of_lt haz (by omega), hcross]

/-! ## The check of an access (R38) -/

theorem accessCheck_of_first {a n : Nat} {e : Error} (h : singleCheck a = some e) : accessCheck a n = some e := by
  rw [accessCheck, h]

theorem accessCheck_of_last {a n : Nat} {e : Error} (ha : singleCheck a = none)
    (h : singleCheck (a + n - 1) = some e) : accessCheck a n = some e := by
  rw [accessCheck, ha, h]

open Classical in
/-- Between valid first and last bytes, what the check answers is a matter of their zones (R38). -/
theorem accessCheck_of_valid {a n : Nat} (ha : validAddress a) (hl : validAddress (a + n - 1)) :
    accessCheck a n =
      if ¬ sameZoneOrPair a (a + n - 1) then some (.invalidMemoryAccess .crossZoneRange (a + n - 1)) else none := by
  have hbus : a < 0x10000000 ∧ a + n - 1 < 0x10000000 := ⟨by have := ha.lt_bus; omega, by have := hl.lt_bus; omega⟩
  simp [accessCheck, (singleCheck_eq_none_iff_validAddress _).mpr ha, (singleCheck_eq_none_iff_validAddress _).mpr hl,
    sameZoneOrPair_iff hbus.1 hbus.2]

theorem accessCheck_eq_none_iff (a n : Nat) :
    accessCheck a n = none ↔ validAddress a ∧ validAddress (a + n - 1) ∧ sameZoneOrPair a (a + n - 1) := by
  by_cases ha : validAddress a
  · by_cases hl : validAddress (a + n - 1)
    · simp [accessCheck_of_valid ha hl, ha, hl]
    · obtain ⟨e, he⟩ := Option.ne_none_iff_exists'.mp (mt (singleCheck_eq_none_iff_validAddress _).mp hl)
      simp [accessCheck_of_last ((singleCheck_eq_none_iff_validAddress a).mpr ha) he, hl]
  · obtain ⟨e, he⟩ := Option.ne_none_iff_exists'.mp (mt (singleCheck_eq_none_iff_validAddress _).mp ha)
    simp [accessCheck_of_first he, ha]

/-- Settles O48: bytes of one window, and no others, are consecutive, and addresses stand in one window exactly if they are
valid and their zones the same or a pair. -/
theorem acceptedAccessHoldsValidConsecutiveBytes : Obligations.AcceptedAccessHoldsValidConsecutiveBytes := by
  intro a n hn
  have hbytes := accessCheck_eq_none_iff a n
  refine ⟨?_, hbytes, fun h => accessCheck_of_first (singleCheck_of_busWidth h),
    fun h hv => accessCheck_of_first (singleCheck_of_outOfZone h hv), fun ha hl => ?_, fun ha hl hz => ?_⟩
  · rw [hbytes, ← withinOneWindow_iff_sameZoneOrPair (by omega), withinOneWindow_iff_consecutive (by omega)]
  · have := ha.lt_bus
    exact accessCheck_of_last ((singleCheck_eq_none_iff_validAddress a).mpr ha) (singleCheck_of_outOfZone (by omega) hl)
  · rw [accessCheck_of_valid ha hl, if_pos hz]

/-! ## Reading several bytes (R39, R132, R133) -/

theorem read16_of_accepted {m : Memory} {a : Word} (h : accessCheck a.toNat 2 = none) :
    read16 m a = .ok (byteAt m (a.toNat + 1) ++ byteAt m a.toNat) := by
  rw [read16, h]

theorem read16_of_error {m : Memory} {a : Word} {e : Error} (h : accessCheck a.toNat 2 = some e) :
    read16 m a = .error e := by
  rw [read16, h]

theorem read32_of_accepted {m : Memory} {a : Word} (h : accessCheck a.toNat 4 = none) :
    read32 m a = .ok (wordAt m a.toNat) := by
  rw [read32, h]

theorem read32_of_error {m : Memory} {a : Word} {e : Error} (h : accessCheck a.toNat 4 = some e) :
    read32 m a = .error e := by
  rw [read32, h]

/-- A byte put below the bytes `x` is added to `2 ^ 8` times their value (R39). -/
theorem toNat_append_byte {n : Nat} (x : BitVec n) (b : Byte) : (x ++ b).toNat = b.toNat + x.toNat * 2 ^ 8 := by
  rw [BitVec.toNat_append, ← Nat.shiftLeft_add_eq_or_of_lt b.isLt, Nat.shiftLeft_eq, Nat.add_comm]

theorem wordOfBytes_toNat (b0 b1 b2 b3 : Byte) : (wordOfBytes b0 b1 b2 b3).toNat =
    b0.toNat + b1.toNat * 2 ^ 8 + b2.toNat * 2 ^ 16 + b3.toNat * 2 ^ 24 := by
  rw [wordOfBytes, toNat_append_byte, toNat_append_byte, toNat_append_byte]
  omega

/-- The low half of a word is its two lowest bytes. -/
theorem wordOfBytes_low_half (b0 b1 b2 b3 : Byte) : (wordOfBytes b0 b1 b2 b3).setWidth 16 = b1 ++ b0 := by
  apply BitVec.eq_of_toNat_eq
  rw [BitVec.toNat_setWidth, wordOfBytes_toNat, toNat_append_byte]
  omega

/-- Settles O49: each read is its bytes put together, the later ones above. -/
theorem multiByteReadsAreLittleEndian : Obligations.MultiByteReadsAreLittleEndian := by
  refine fun m a => ⟨fun h => ⟨_, read16_of_accepted h, toNat_append_byte ..⟩,
    fun h => ⟨_, read32_of_accepted h, wordOfBytes_toNat ..⟩, fun v h hv hh => ?_, fun e => read16_of_error,
    fun e => read32_of_error⟩
  cases h4 : accessCheck a.toNat 4 with
  | some e => simp [read32_of_error h4] at hv
  | none =>
    cases h2 : accessCheck a.toNat 2 with
    | some e => simp [read16_of_error h2] at hh
    | none =>
      rw [read32_of_accepted h4] at hv
      rw [read16_of_accepted h2] at hh
      cases hv
      cases hh
      exact (wordOfBytes_low_half ..).symm

end Sys2Proof.Machine
end

section
/-! The classifier (R71 to R77): the fields of the selected filter, the validity refinement on the fields themselves, and
what an UNKNOWN word has. -/

namespace Sys2Proof

/-! ## The extractors of a filter (R62, R75) -/

/-- Every field of the filter table is narrower than a word, which the formula of R75 needs. -/
theorem width_lt_of_extractor : ∀ f ∈ filters, ∀ e ∈ f.extractors, e.hi - e.lo + 1 < 32 := by decide

theorem extractor_names_nodup : ∀ f ∈ filters, (f.extractors.map (·.name)).Nodup := by decide

theorem extract_names (f : Filter) (w : Word) : (f.extract w).map (·.1) = f.extractors.map (·.name) := by
  rw [Filter.extract, List.map_map]
  rfl

/-- A field's value is at most the mask of its width (R75). -/
theorem bits_le (w : Word) {hi lo : Nat} (h : hi - lo + 1 < 32) : (bits w hi lo).toNat ≤ 2 ^ (hi - lo + 1) - 1 := by
  rw [bits_toNat w hi lo h]
  exact Nat.le_sub_one_of_lt (Nat.mod_lt _ (Nat.two_pow_pos _))

/-- The formula of R75 takes the slice of the word that the extractor names. -/
theorem extract_eq_slices {f : Filter} (hf : f ∈ filters) (w : Word) :
    f.extract w = f.extractors.map fun e => (e.name, (w.extractLsb' e.lo (e.hi - e.lo + 1)).setWidth 32) :=
  List.map_congr_left fun e he => by rw [bits_eq_setWidth w e.hi e.lo (width_lt_of_extractor f hf e he)]

/-- The record of a filter's type, read as a field map, lists the filter's extractors in order. -/
theorem fieldMap_extractAs {f : Filter} (hf : f ∈ filters) (w : Word) :
    (extractAs f.kind w).fieldMap = f.extract w := by
  rw [extract_eq_slices hf]
  fin_cases hf <;> rfl

/-! ## The selection (R74, R76) -/

theorem selected_mem {w : Word} {f : Filter} (h : selected w = some f) : f ∈ filters := List.mem_of_find?_eq_some h

theorem kindOf_of_selected {w : Word} {f : Filter} (h : selected w = some f) : kindOf w = f.kind := by
  simp only [kindOf, h]

theorem kindOf_eq_unknown_iff (w : Word) : kindOf w = .unknown ↔ selected w = none := by
  have hkind : ∀ f ∈ filters, f.kind ≠ .unknown := by decide
  cases h : selected w with
  | none => simp only [kindOf, h]
  | some f => simp [kindOf_of_selected h, hkind f (selected_mem h)]

theorem classify_of_unknown {w : Word} (h : kindOf w = .unknown) : classify w = .unknown := by
  rw [classify, h]
  rfl

theorem validMatches_eq_nil_iff (w : Word) : validMatches w = [] ↔ selected w = none := by
  simp [validMatches, selected]

theorem multiMatch_of_unknown {w : Word} (h : kindOf w = .unknown) : multiMatch w = false := by
  rw [multiMatch, (validMatches_eq_nil_iff w).mpr ((kindOf_eq_unknown_iff w).mp h)]
  rfl

/-- The field map of a word is the formula of R75 over the selected filter. -/
theorem fieldMap_of_selected {w : Word} {f : Filter} (h : selected w = some f) : (classify w).fieldMap = f.extract w := by
  rw [classify, kindOf_of_selected h, fieldMap_extractAs (selected_mem h)]

/-- Settles O8: the selected filter's extractors are the fields of its type's record, and each formula is a slice. -/
theorem fieldMapIsTheExtractionFormula : Obligations.FieldMapIsTheExtractionFormula := by
  refine fun w => ⟨fun f h => ⟨fieldMap_of_selected h, ?_, fun e he => ?_⟩, fun h => ?_⟩
  · rw [fieldMap_of_selected h, extract_names]
    exact extractor_names_nodup f (selected_mem h)
  · exact bits_le w (width_lt_of_extractor f (selected_mem h) e he)
  · rw [classify_of_unknown ((kindOf_eq_unknown_iff w).mpr h)]
    rfl

/-! ## The validity refinement (R72, R73) -/

theorem needsAluValid_iff (k : Kind) :
    k.needsAluValid = true ↔ k = .aluRegShiftImm ∨ k = .aluRegShiftReg ∨ k = .aluImm := by
  cases k <;> decide

/-- The refinement computes the same on the fields as on their values extended to words. -/
theorem aluValid_eq_fields (w : Word) : aluValid w =
    if 0x8 ≤ w.extractLsb' 21 4 ∧ w.extractLsb' 21 4 ≤ 0xB then
      w.extractLsb' 20 1 == 1 && (w.extractLsb' 12 4 == 0 || w.extractLsb' 12 4 == 15)
    else true := by
  have hop : ∀ op : BitVec 4, (0x8 ≤ op.setWidth 32 ∧ op.setWidth 32 ≤ 0xB) ↔ (0x8 ≤ op ∧ op ≤ 0xB) := by decide
  have hs : ∀ s : BitVec 1, (s.setWidth 32 == 1) = (s == 1) := by decide
  have hrd : ∀ rd : BitVec 4, (rd.setWidth 32 == 0 || rd.setWidth 32 == 15) = (rd == 0 || rd == 15) := by decide
  simp only [aluValid, bits_eq_setWidth w 24 21 (by decide), bits_eq_setWidth w 20 20 (by decide),
    bits_eq_setWidth w 15 12 (by decide), hop, hs, hrd]

/-- The validity refinement on the fields `Op`, `S` and `Rd` (R73). -/
theorem aluValid_iff_fields (w : Word) : aluValid w = true ↔
    (0x8 ≤ w.extractLsb' 21 4 → w.extractLsb' 21 4 ≤ 0xB →
      w.extractLsb' 20 1 = 1 ∧ (w.extractLsb' 12 4 = 0 ∨ w.extractLsb' 12 4 = 15)) := by
  rw [aluValid_eq_fields, ← and_imp]
  split_ifs with hclass
  · simp only [hclass, and_self, forall_const, Bool.and_eq_true, Bool.or_eq_true, beq_iff_eq]
  · exact iff_of_true rfl fun h => absurd h hclass

/-- Settles O10: a valid match is a candidate that passes the refinement, where its type has one. -/
theorem validityRuleRejectsBadCompareWords : Obligations.ValidityRuleRejectsBadCompareWords := by
  intro w f _
  rw [← aluValid_iff_fields, ← needsAluValid_iff, Filter.validMatch]
  cases f.kind.needsAluValid <;> simp

end Sys2Proof
end

section
/-! An instruction that stands through the decode stage (R77), and the UNKNOWN word there (R76, R121). -/

namespace Sys2Proof.Machine

theorem Unambiguous.ambiguous_eq_false {s : State} {I : DecodedInstruction} (h : Unambiguous s I) :
    s.ambiguous I.opcode = false :=
  (Bool.and_eq_false_iff ..).mpr h

/-- The line of a rendered value whose prefixes are those asked for (R111). -/
theorem Rendered.text_shown (p : Config.Params) (showAddress showOpcode : Bool) (a w : Word) (m : Mnemonic)
    (r : RenderedOperand) : (⟨shown showAddress a, shown showOpcode w, m, r⟩ : Rendered).text p =
      (if showAddress then hex8 a ++ " : " else "") ++ (if showOpcode then hex8 w ++ " | " else "")
        ++ (mnemonicText p m ++ operandText p r) := by
  simp only [Rendered.text, prefixText_shown, String.append_assoc]

/-- What the decode stage leaves of an instruction whose body renders (R152): `decodedState`, but for the port `dec`, which
says `unknown` for an UNKNOWN word. -/
theorem decodeAs_of_body {c : Classification} {s : State} {I : DecodedInstruction} {m : Mnemonic} {r : RenderedOperand}
    (hD : s.slotD = some I) (hI : Unambiguous s I) (hbody : body I.address c = .ok (m, r)) :
    decodeAs c s = .next
      ((decodedState s I c m r (mnemonicText s.params m ++ operandText s.params r)).putDec
        (standingDecOutput I.opcode c)) := by
  rw [decodeAs_of_rendered hD hI.ambiguous_eq_false (render_of_body hbody), State.putDecoded, State.decodedOutput,
    Rendered.text_shown]
  rfl

/-- Settles O22: no filter matches, so none matches twice; the body of UNKNOWN is the marker, and it renders. -/
theorem unknownWordIsDecodedAndRenderedAsTheMarker : Obligations.UnknownWordIsDecodedAndRenderedAsTheMarker := by
  refine ⟨fun w h => ⟨classify_of_unknown h, by rw [classify_of_unknown h]; rfl, multiMatch_of_unknown h⟩,
    fun s I hD hI => ?_⟩
  have hbody : body I.address .unknown = .ok (.unknownMarker, .none) := rfl
  have htext : mnemonicText s.params .unknownMarker ++ operandText s.params .none = s.params.txtUnknown :=
    String.append_empty
  rw [decodeUnknown, decodeAs_of_body hD hI hbody, htext]
  rfl

end Sys2Proof.Machine
end

section
/-! The rendering layer (R110 to R124): the branch target as a number, where rendering fails, and what the branches render
as. -/

namespace Sys2Proof.Machine

/-! ## The branch target (R118) -/

/-- OR-ing the top eight bits, if bit 23 is set, extends the sign. -/
theorem signedOffset_eq_signExtend (offset : BitVec 24) : signedOffset offset = offset.signExtend 32 := by
  have htop : ∀ i < 32, (0xFF000000#32).getLsbD i = !decide (i < 24) := by decide
  rw [signedOffset, ← BitVec.msb_eq_getLsbD_last offset]
  cases h : offset.msb with
  | false => exact (BitVec.signExtend_eq_setWidth_of_msb_false h).symm
  | true =>
    rw [BitVec.signExtend_eq_not_setWidth_not_of_msb_true h]
    apply BitVec.eq_of_getLsbD_eq
    intro i hi
    simp [-BitVec.getLsbD_eq_getElem, htop i hi, hi, Bool.or_comm]

theorem branchTarget_eq_signExtend (address : Word) (offset : BitVec 24) :
    branchTarget address offset = address + 8 + 4 * offset.signExtend 32 := by
  rw [branchTarget, signedOffset_eq_signExtend]

/-- The target law in integers, with the offset as a signed number (R118). -/
theorem branchTarget_toNat (address : Word) (offset : BitVec 24) :
    ((branchTarget address offset).toNat : Int) = ((address.toNat : Int) + 8 + 4 * offset.toInt) % 2 ^ 32 := by
  have hoffset : ((offset.signExtend 32).toNat : Int) = offset.toInt % 2 ^ 32 := by
    rw [BitVec.signExtend, BitVec.toNat_ofInt]
    omega
  have htarget : (branchTarget address offset).toNat =
      (address.toNat + 8 + 4 * (offset.signExtend 32).toNat) % 2 ^ 32 := by
    rw [branchTarget_eq_signExtend]
    bv_omega
  omega

/-- Settles O11: the law in integers; 4 divides 2 ^ 32 and what is added, so the low two bits stay. -/
theorem branchTargetIsAddressPlusEightPlusFourTimesTheSignedOffset :
    Obligations.BranchTargetIsAddressPlusEightPlusFourTimesTheSignedOffset := by
  refine ⟨fun a off => ?_, by decide, fun a => ?_⟩
  · have htarget := branchTarget_toNat a off
    exact ⟨htarget, by omega⟩
  · have hback : 4 * signedOffset 0xFFFFFF = -4 := by decide
    rw [branchTarget, hback, BitVec.sub_eq_add_neg]

/-! ## The text parameters (R124) -/

theorem placeholderText_default (k : Kind) : placeholderText {} k = "[" ++ kindText k ++ "]" := rfl

/-- Settles O59: no type has a placeholder of its own by default, so each has its name in brackets. -/
theorem textParametersHaveTheSpecDefaults : Obligations.TextParametersHaveTheSpecDefaults := by
  refine ⟨rfl, rfl, rfl, rfl, ?_⟩
  simp only [List.map, placeholderText_default]
  rfl

/-! ## Where rendering fails, and what looks at the address (R123) -/

/-- The filters have different types, so the type of a word tells which of them matches it (R64, R74). -/
theorem validMatch_of_kindOf {f : Filter} (hf : f ∈ filters) {w : Word} (h : kindOf w = f.kind) :
    f.validMatch w = true := by
  have hkinds : ∀ g ∈ filters, ∀ f ∈ filters, g.kind = f.kind → g = f := by decide
  have hunknown : ∀ f ∈ filters, f.kind ≠ .unknown := by decide
  cases hs : selected w with
  | none => exact absurd (h.symm.trans ((kindOf_eq_unknown_iff w).mpr hs)) (hunknown f hf)
  | some g =>
    have hg : g.validMatch w = true := List.find?_some (p := fun f : Filter => f.validMatch w) hs
    rwa [hkinds g (selected_mem hs) f hf ((kindOf_of_selected hs).symm.trans h)] at hg

/-- A word that matches the multiply filter matches none of the six before it (R74, R90). -/
theorem kindOf_eq_multiply_iff (w : Word) : kindOf w = .multiply ↔ filterMultiply.validMatch w = true := by
  refine ⟨validMatch_of_kindOf (f := filterMultiply) (by decide), fun h => ?_⟩
  obtain ⟨h27, h26, h25, h24, h23, h7, h6, h5, h4⟩ := (filterMultiply_validMatch w).mp h
  rw [kindOf_chain, if_pos h]
  simp [filterAluRegShiftImm_validMatch, filterAluRegShiftReg_validMatch, filterAluImm_validMatch,
    filterPsrImm_validMatch, filterPsrReg_validMatch, filterBranchExchange_validMatch, h25, h24, h7, h4]

theorem isMultiplyHole_iff (w : Word) : isMultiplyHole w ↔ kindOf w = .multiply ∧ w.extractLsb' 21 3 = 3 := by
  rw [kindOf_eq_multiply_iff, filterMultiply_validMatch, isMultiplyHole]
  simp only [extractLsb'_eq_iff]
  simp [List.range_succ]
  tauto

/-- The top bit of `Op` is one of the bits that select type 8, and it is set (R91): no long multiply has the code 3. -/
theorem op_ne_three_of_multiplyLong {w : Word} (h : kindOf w = .multiplyLong) : w.extractLsb' 21 3 ≠ 3 := by
  obtain ⟨-, -, -, -, h23, -⟩ :=
    (filterMultiplyLong_validMatch w).mp (validMatch_of_kindOf (f := filterMultiplyLong) (by decide) h)
  intro hop
  have htop : (w.extractLsb' 21 3).getLsbD 2 = false := by rw [hop]; rfl
  simp [h23] at htop

/-- A classification of a word has the word's type and holds the fields of that type (R75). -/
theorem extractAs_of_classify {w : Word} {c : Classification} (h : classify w = c) :
    kindOf w = c.kind ∧ extractAs c.kind w = c := by
  rw [← h, classify_kind]
  exact ⟨rfl, rfl⟩

/-- The body of a word fails on the hole only: the other row with the code 3 is no word's (R113, R123). -/
theorem isMultiplyHole_of_body_error {a w : Word} {e : Error} (h : body a (classify w) = .error e) :
    isMultiplyHole w := by
  obtain ⟨-, ⟨f, hf, hop⟩ | ⟨f, hf, hop⟩⟩ := body_error h
  · obtain ⟨hkind, hfields⟩ := extractAs_of_classify hf
    cases hfields
    exact (isMultiplyHole_iff w).mpr ⟨hkind, hop⟩
  · obtain ⟨hkind, hfields⟩ := extractAs_of_classify hf
    cases hfields
    exact absurd hop (op_ne_three_of_multiplyLong hkind)

theorem body_of_hole {w : Word} (h : isMultiplyHole w) (a : Word) :
    body a (classify w) = .error (.unknownMnemonic .multiply 3) := by
  obtain ⟨hkind, hop⟩ := (isMultiplyHole_iff w).mp h
  rw [classify, hkind, extractAs, body, hop]
  rfl

/-- Only the branches look at the address (R123). -/
theorem body_eq_of_not_branch {c : Classification} (h : c.kind ≠ .branch) (a b : Word) : body a c = body b c := by
  cases c with
  | branch f => exact absurd rfl h
  | _ => rfl

theorem render_eq_of_not_branch {o : Config.FormatOptions} {c : Classification} (ho : o.showAddress = false)
    (h : c.kind ≠ .branch) (a b w : Word) : render o a w c = render o b w c := by
  rw [render, render, body_eq_of_not_branch h a b, ho]
  rfl

/-- Settles O13: a line is its body with the prefixes, so it fails where the body does. -/
theorem renderFailsOnTheMultiplyHoleOnly : Obligations.RenderFailsOnTheMultiplyHoleOnly := by
  refine fun o a w => ⟨fun hole => render_of_body_error (body_of_hole hole a), fun hole => ?_, fun b ho hkind =>
    render_eq_of_not_branch ho (by rwa [classify_kind]) a b w⟩
  cases hbody : body a (classify w) with
  | ok line => exact ⟨_, render_of_body hbody⟩
  | error e => exact absurd (isMultiplyHole_of_body_error hbody) hole

/-! ## The branches (R116, R119) -/

/-- An instruction whose body renders completes with its classification and its line; nothing else changes (R152). -/
theorem exec_of_body {i : Instr} {s : State} {I : DecodedInstruction} {m : Mnemonic} {r : RenderedOperand}
    (hD : s.slotD = some I) (hI : Unambiguous s I) (hbody : body I.address i.classification = .ok (m, r)) :
    exec i s = .next
      (decodedState s I i.classification m r (mnemonicText s.params m ++ operandText s.params r)) := by
  have hdec : decResultOf i.classification = .decoded i.classification := by cases i <;> rfl
  rw [exec_eq_decodeAs, decodeAs_of_body hD hI hbody, standingDecOutput, hdec]
  rfl

/-- The condition suffixes in the order of their codes (R114). -/
theorem condText_condName (cond : BitVec 4) : condText (condName cond) =
    ["EQ", "NE", "HS", "LO", "MI", "PL", "VS", "VC", "HI", "LS", "GE", "LT", "GT", "LE", "", "NV"].getD cond.toNat
      "" := by
  revert cond
  decide

theorem append_operandText_reg (p : Config.Params) (mnemonic : String) (n : BitVec 4) :
    mnemonic ++ operandText p (.reg n) = mnemonic ++ " " ++ (p.regPrefix ++ toString n.toNat) :=
  String.append_assoc.symm

theorem append_operandText_label (p : Config.Params) (mnemonic : String) (target : Word) :
    mnemonic ++ operandText p (.label target) = mnemonic ++ " " ++ (p.labelPrefix ++ hex8 target) :=
  String.append_assoc.symm

/-- Settles O17: each of the four bodies renders, and its text is the mnemonic, a space and the register or the label. -/
theorem branchesAreDecodedAndRedirectNothing : Obligations.BranchesAreDecodedAndRedirectNothing := by
  intro s I hD hI
  refine ⟨fun o => ⟨?_, ?_⟩, fun o => ?_⟩
  · have hbody : body I.address (Instr.bx o).classification = .ok (.bx, .reg o.rn) := rfl
    rw [exec_of_body hD hI hbody, append_operandText_reg]
    rfl
  · have hbody : body I.address (Instr.blx o).classification = .ok (.blx, .reg o.rn) := rfl
    rw [exec_of_body hD hI hbody, append_operandText_reg]
    rfl
  · rw [← branchTarget_eq_signExtend, ← condText_condName]
    have hb : body I.address (Instr.b o).classification =
      .ok (.b (condName o.cond), .label (branchTarget I.address o.offset)) := rfl
    have hbl : body I.address (Instr.bl o).classification =
      .ok (.bl (condName o.cond), .label (branchTarget I.address o.offset)) := rfl
    rw [exec_of_body hD hI hb, exec_of_body hD hI hbl, append_operandText_label, append_operandText_label]
    exact ⟨rfl, rfl⟩

end Sys2Proof.Machine
end

section
/-! The reads, writes and loads of ASC (R131, R134 to R139), as what `byteAt` answers after them: an address reads the
cell of the byte it locates, and two addresses have the same cell exactly if they locate the same byte. -/

namespace Sys2Proof.Machine

/-! ## One byte (R131, R134) -/

theorem byteAt_of_locate {a : Nat} {b : Buffer} {i : Nat} (h : locate a = some (b, i)) (m : Memory) :
    byteAt m a = m.get (b.firstCell + i) := by
  simp [byteAt, cellOf, h]

/-- Settles O58: a valid address locates a byte, and `read8` answers it; at any other address it answers the check's
error. -/
theorem readByteAnswersTheLocatedByte : Obligations.ReadByteAnswersTheLocatedByte := by
  refine fun m a => ⟨fun hv => ?_, fun h => ?_, fun h hv => ?_⟩
  · obtain ⟨⟨b, i⟩, hl⟩ := Option.isSome_iff_exists.mp ((locate_isSome_iff _).mpr hv)
    have hread := read8_of_valid (m := m) ((singleCheck_eq_none_iff_validAddress _).mpr hv)
    exact ⟨b, i, hl, locate_lt_size hl, byteAt_of_locate hl m ▸ hread, hread⟩
  · rw [read8, singleCheck_of_busWidth h]
  · rw [read8, singleCheck_of_outOfZone h hv]

theorem cellOf_eq_iff_locate (a b : Nat) : cellOf a = cellOf b ↔ locate a = locate b := by
  refine ⟨fun h => ?_, cellOf_eq_of_locate⟩
  cases hb : cellOf b with
  | some c => exact locate_eq_of_cellOf (h.trans hb) hb
  | none =>
    rw [Option.map_eq_none_iff.mp (h.trans hb), Option.map_eq_none_iff.mp hb]

theorem write8_of_error {a : Word} {e : Error} (h : singleCheck a.toNat = some e) (m : Memory) (v : Byte) :
    write8 m a v = .error e := by
  rw [write8, h]

/-- Settles O50: the write sets the cell of its address, which is the cell of the aliases and of no other address. -/
theorem writeByteChangesExactlyTheLocatedByte : Obligations.WriteByteChangesExactlyTheLocatedByte := by
  refine fun m a v hm => ⟨fun hv => ?_, fun e he => write8_of_error he m v⟩
  have hcheck := (singleCheck_eq_none_iff_validAddress _).mpr hv
  have hwrite : write8 m a v = .ok (setByteAt m a.toNat v) := write8_eq_ok_iff.mpr ⟨hcheck, rfl⟩
  exact ⟨_, hwrite, read8_of_write8 hm hwrite rfl,
    fun b hb => byteAt_setByteAt_same hm ((singleCheck_none_iff _).mp hcheck) (cellOf_eq_of_locate hb),
    fun b hb => byteAt_setByteAt_other (mt (cellOf_eq_iff_locate ..).mp hb)⟩

/-! ## Several bytes (R135, R136) -/

section AcceptedRange
variable {a c : Nat} (h : rangeCheck a c = none)
include h

theorem locate_of_accepted : ∃ b i, ∀ k, k < c - a → locate (a + k) = some (b, i + k) := by
  obtain ⟨-, -, -, hbytes, -⟩ := acceptedRangeHoldsValidConsecutiveBytes
  exact hbytes a c h

theorem cellOf_isSome_of_accepted {k : Nat} (hk : k < c - a) : (cellOf (a + k)).isSome := by
  obtain ⟨b, i, hl⟩ := locate_of_accepted h
  exact cellOf_isSome_of_locate (hl k hk)

/-- No range holds a byte twice, not even one over the ROM. -/
theorem cellOf_injective_of_accepted {j k : Nat} (hj : j < c - a) (hk : k < c - a)
    (hcell : cellOf (a + j) = cellOf (a + k)) : j = k := by
  obtain ⟨b, i, hl⟩ := locate_of_accepted h
  have hsame := (cellOf_eq_iff_locate ..).mp hcell
  rw [hl j hj, hl k hk] at hsame
  simpa using hsame

end AcceptedRange

/-- Settles O51: the addresses of an accepted range have different cells, so each keeps the byte written there. -/
theorem writeBlockWritesItsRangeAndNothingElse : Obligations.WriteBlockWritesItsRangeAndNothingElse := by
  refine fun m a data hm => ⟨fun h => ⟨writeBytes m a.toNat data, by rw [writeBlock, h], fun k hk => ?_,
    fun b hb => ?_⟩, fun e he => by rw [writeBlock, he]⟩
  · exact byteAt_writeBytes_at hm (fun k hk => cellOf_isSome_of_accepted h (by omega))
      (fun j k hj hk => cellOf_injective_of_accepted h (by omega) (by omega)) hk
  · exact byteAt_writeBytes_other fun k hk => mt (cellOf_eq_iff_locate ..).mp (hb k hk)

theorem patternByte_toNat (p : Word) (k : Nat) : (patternByte p k).toNat = p.toNat / 2 ^ (8 * (k % 4)) % 2 ^ 8 := by
  rw [patternByte, BitVec.toNat_setWidth, BitVec.toNat_ushiftRight, Nat.shiftRight_eq_div_pow]

/-- Settles O52: as for a block, with the bytes of the pattern. -/
theorem fillRepeatsThePatternOverItsRange : Obligations.FillRepeatsThePatternOverItsRange := by
  refine fun m a c p hm => ⟨fun h => ⟨fillBytes m a.toNat p (c.toNat - a.toNat), by rw [fill, h], fun k hk => ?_,
    fun b hb => ?_⟩, fun e he => by rw [fill, he]⟩
  · rw [byteAt_fillBytes_at hm (fun k => cellOf_isSome_of_accepted h) (fun j k => cellOf_injective_of_accepted h) hk,
      patternByte_toNat]
  · exact byteAt_fillBytes_other fun k hk => mt (cellOf_eq_iff_locate ..).mp (hb k hk)

/-! ## The dump (R137) -/

/-- A dump reads the addresses of the zone in order. -/
theorem dumpZone_eq_map_byteAt (m : Memory) (z : Fin 16) :
    dumpZone m z = (List.range (zoneSize z)).map fun k => byteAt m (zoneBase z + k) := by
  unfold dumpZone
  cases hb : (zoneRow z).backing with
  | none =>
    have hsize : zoneSize z = 0 := by
      by_contra hne
      simpa [hb] using zoneRow_backing_of_lt (Nat.pos_of_ne_zero hne)
    rw [hsize]
    rfl
  | some backing =>
    refine List.map_congr_left fun k hk => ?_
    rw [byteAt_of_locate (locate_zoneBase_add z.isLt (List.mem_range.mp hk) hb), Nat.add_assoc]

/-- Settles O53: the dump is the list of the zone's bytes by address. -/
theorem dumpIsTheBytesOfTheZoneInOrder : Obligations.DumpIsTheBytesOfTheZoneInOrder := by
  intro m z
  rw [dumpZone_eq_map_byteAt]
  exact ⟨by simp, fun k hk => by simp [hk]⟩

/-! ## The loads (R138, R139, R162) -/

theorem loadBuffer_of_fits {b : Buffer} {image : List Byte} (h : image.length ≤ b.size) (m : Memory) :
    loadBuffer m b image = .ok (storeImage (clearBuffer m b) b 0 image) :=
  if_neg (Nat.not_lt.mpr h)

theorem loadBuffer_of_oversized {b : Buffer} {image : List Byte} (h : b.size < image.length) (m : Memory) :
    loadBuffer m b image = .error (.loadingError b image.length b.size) :=
  if_pos h

theorem byteAt_window_add {b : Buffer} {w k : Nat} (hw : w ∈ b.windows) (hk : k < b.size) (m : Memory) :
    byteAt m (w + k) = m.get (b.firstCell + k) :=
  byteAt_of_locate (locate_window_add hw hk) m

section Load
variable {m m' : Memory} {b : Buffer} {image : List Byte} (hload : loadBuffer m b image = .ok m')
include hload

theorem fits_of_loadBuffer : image.length ≤ b.size := by
  by_contra h
  simp [loadBuffer_of_oversized (Nat.lt_of_not_le h)] at hload

theorem eq_storeImage_of_loadBuffer : m' = storeImage (clearBuffer m b) b 0 image := by
  rw [loadBuffer_of_fits (fits_of_loadBuffer hload)] at hload
  exact (Except.ok.inj hload).symm

/-- In each window of the buffer the image reads back. -/
theorem byteAt_load_image (hm : m.wf) {w k : Nat} (hw : w ∈ b.windows) (hk : k < image.length) :
    byteAt m' (w + k) = image[k] := by
  have hfits := fits_of_loadBuffer hload
  have hread := get_storeImage_at (m := clearBuffer m b) (b := b) (i := 0) (clearBuffer_wf hm) (by omega) hk
  rwa [Nat.zero_add, ← eq_storeImage_of_loadBuffer hload, ← byteAt_window_add hw (by omega)] at hread

/-- In each window of the buffer the fill reads behind the image. -/
theorem byteAt_load_fill {w k : Nat} (hw : w ∈ b.windows) (hk : image.length ≤ k) (hsize : k < b.size) :
    byteAt m' (w + k) = 0xFF := by
  rw [byteAt_window_add hw hsize, eq_storeImage_of_loadBuffer hload, get_storeImage_other (b := b) fun j hj => by omega,
    clearBuffer_get, if_pos (b.holds_cell hsize)]

/-- Outside the windows of the buffer every address reads as before. -/
theorem byteAt_load_other {a : Nat} (ha : ∀ w ∈ b.windows, a < w ∨ w + b.size ≤ a) : byteAt m' a = byteAt m a := by
  cases hl : locate a with
  | none => simp [byteAt, cellOf, hl]
  | some l =>
    obtain ⟨d, i⟩ := l
    obtain ⟨hi, w, hw, rfl⟩ := locate_eq_some_iff.mp hl
    have hother : ¬ b.holds (d.firstCell + i) = true := fun hb => by
      obtain rfl := Buffer.holds_unique hb (d.holds_cell hi)
      have := ha w hw
      omega
    have hfits := fits_of_loadBuffer hload
    rw [byteAt_of_locate hl, byteAt_of_locate hl, eq_storeImage_of_loadBuffer hload,
      get_storeImage_other fun k hk he => hother (by rw [he, Nat.zero_add]; exact b.holds_cell (by omega)),
      clearBuffer_get, if_neg hother]

end Load

theorem read8_ofNat_of_bios {k : Nat} (hk : k < 16384) (m : Memory) :
    read8 m (BitVec.ofNat 32 k) = .ok (byteAt m k) := by
  have haddress : (BitVec.ofNat 32 k).toNat = k := Nat.mod_eq_of_lt (by omega)
  have hread := read8_of_valid (m := m) (a := BitVec.ofNat 32 k)
    ((singleCheck_eq_none_iff_validAddress _).mpr (.inl (by omega)))
  rwa [haddress] at hread

/-- Settles O54: BIOS has one window, from address 0. -/
theorem biosLoadFillsThenCopiesTheImage : Obligations.BiosLoadFillsThenCopiesTheImage := by
  refine fun m image hm => ⟨fun hfits => ?_, fun h => loadBuffer_of_oversized (b := .bios) h m⟩
  have hload := loadBuffer_of_fits (b := .bios) hfits m
  have hwindow : 0 ∈ Buffer.bios.windows := by decide
  refine ⟨_, hload, fun k hk => ?_, fun k hk hsize => ?_, fun a ha => byteAt_load_other hload fun w hw => ?_⟩
  · have hread := byteAt_load_image hload hm hwindow hk
    rw [read8_ofNat_of_bios (by omega), ← hread, Nat.zero_add]
  · have hread := byteAt_load_fill hload hwindow hk hsize
    rw [read8_ofNat_of_bios hsize, ← hread, Nat.zero_add]
  · obtain rfl : w = 0 := List.mem_singleton.mp hw
    exact .inr ha

/-- Settles O55: the ROM buffer has the three windows of the statement, and they adjoin. -/
theorem romLoadIsSeenThroughAllThreeWindows : Obligations.RomLoadIsSeenThroughAllThreeWindows := by
  refine fun m image hm => ⟨fun hfits => ?_, fun h => loadBuffer_of_oversized (b := .rom) h m⟩
  have hload := loadBuffer_of_fits (b := .rom) hfits m
  refine ⟨_, hload, fun k hk j hj => byteAt_load_image hload hm (mem_rom_windows hj) hk,
    fun k j hk hsize hj => byteAt_load_fill hload (mem_rom_windows hj) hk hsize,
    fun a ha => byteAt_load_other hload fun w hw => ?_⟩
  have hbetween : ∀ w ∈ Buffer.rom.windows, 0x08000000 ≤ w ∧ w + Buffer.rom.size ≤ 0x0E000000 := by decide
  have := hbetween w hw
  omega

end Sys2Proof.Machine
end

section
/-! The service of a host command (R130, R140, R142): what each function's answer makes of the memory and the reply, and
which errors the functions answer. -/

namespace Sys2Proof.Machine

/-! ## The answer and the reply (R130) -/

theorem servedRead_of_readReply {α : Type} {m : Memory} {c : Command} {value : α → Reply} {r : Except Error α}
    (h : serveCommand m c = (m, readReply value r)) : ServedRead m c value r :=
  ⟨fun v hv => by rw [h, hv, readReply_ok], fun e he => by rw [h, he, readReply_error]⟩

theorem servedWrite_of_writeReply {m : Memory} {c : Command} {r : Except Error Memory}
    (h : serveCommand m c = writeReply m r) : ServedWrite m c r :=
  ⟨fun v hv => by rw [h, hv, writeReply_ok], fun e he => by rw [h, he, writeReply_error]⟩

theorem error_of_readReply_failed {α : Type} {value : α → Reply} {r : Except Error α} {e : Error}
    (hvalue : ∀ v, value v ≠ .failed e) (h : readReply value r = .failed e) : r = .error e := by
  cases r with
  | ok v => exact absurd h (hvalue v)
  | error e' => rw [Reply.failed.inj h]

theorem error_of_writeReply_failed {m : Memory} {r : Except Error Memory} {e : Error}
    (h : (writeReply m r).2 = .failed e) : r = .error e := by
  cases r with
  | ok m' => cases h
  | error e' => rw [Reply.failed.inj h]

/-- A command that fails changes no memory (R140). -/
theorem serveCommand_of_failed {m : Memory} {c : Command} {e : Error} (h : (serveCommand m c).2 = .failed e) :
    serveCommand m c = (m, .failed e) := by
  have write : ∀ r : Except Error Memory, (writeReply m r).2 = .failed e → writeReply m r = (m, .failed e) :=
    fun r hr => by rw [error_of_writeReply_failed hr, writeReply_error]
  cases c with
  | read8 | read16 | read32 | dumpZone => exact Prod.ext rfl h
  | write8 | writeBlock | fill | loadBios | loadRom => exact write _ h

/-! ## The errors (R161, R162) -/

/-- The error is an invalid access of the bus. -/
def Error.IsAccess (e : Error) : Prop := ∃ cause a, e = .invalidMemoryAccess cause a

theorem isAccess_of_singleCheck {a : Nat} {e : Error} (h : singleCheck a = some e) : e.IsAccess := by
  unfold singleCheck at h
  split_ifs at h <;> cases h <;> exact ⟨_, _, rfl⟩

theorem isAccess_of_rangeCheck {a c : Nat} {e : Error} (h : rangeCheck a c = some e) : e.IsAccess := by
  unfold rangeCheck at h
  split_ifs at h <;> cases h <;> exact ⟨_, _, rfl⟩

theorem isAccess_of_accessCheck {a n : Nat} {e : Error} (h : accessCheck a n = some e) : e.IsAccess := by
  unfold accessCheck at h
  split at h
  next he => cases h; exact isAccess_of_singleCheck he
  next =>
    split at h
    next he => cases h; exact isAccess_of_singleCheck he
    next => split_ifs at h; cases h; exact ⟨_, _, rfl⟩

/-- A function that answers a value where its check accepts fails with the error of the check. -/
theorem check_of_error {α : Type} {check : Option Error} {v : α} {e : Error}
    (h : (match check with | some e => .error e | none => .ok v : Except Error α) = .error e) : check = some e := by
  cases check with
  | none => cases h
  | some e' => rw [Except.error.inj h]

theorem loadingError_of_loadBuffer {m : Memory} {b : Buffer} {image : List Byte} {e : Error}
    (h : loadBuffer m b image = .error e) : e = .loadingError b image.length b.size := by
  unfold loadBuffer at h
  split_ifs at h
  exact (Except.error.inj h).symm

/-- A failed command answers one of the two errors that R130 names. -/
theorem error_of_serveCommand_failed {m : Memory} {c : Command} {e : Error} (h : (serveCommand m c).2 = .failed e) :
    e.IsAccess ∨ ∃ b len capacity, e = .loadingError b len capacity := by
  cases c with
  | read8 => exact .inl (isAccess_of_singleCheck (check_of_error (error_of_readReply_failed (by simp) h)))
  | read16 | read32 => exact .inl (isAccess_of_accessCheck (check_of_error (error_of_readReply_failed (by simp) h)))
  | write8 => exact .inl (isAccess_of_singleCheck (check_of_error (error_of_writeReply_failed h)))
  | writeBlock | fill => exact .inl (isAccess_of_rangeCheck (check_of_error (error_of_writeReply_failed h)))
  | dumpZone => cases h
  | loadBios | loadRom => exact .inr ⟨_, _, _, loadingError_of_loadBuffer (error_of_writeReply_failed h)⟩

/-! ## The step (R140, R142) -/

/-- A command changes the request list, the memory and the reply; every other part of the state stands (R142). -/
theorem step_of_command {s : State} {c : Command} {rest : List Request} (h : s.requests = .command c :: rest) :
    step s = .next
      { s with requests := rest, mem := (serveCommand s.mem c).1, out := { reply := some (serveCommand s.mem c).2 } } :=
  step_of_request h

/-- Settles O35: the step serves the command and leaves the rest; each command by its arm of the service. -/
theorem hostCommandTouchesMemoryAndReplyOnly : Obligations.HostCommandTouchesMemoryAndReplyOnly := by
  refine ⟨fun s c rest h => ⟨step_of_command h, ?_⟩, fun m =>
    ⟨fun _ => servedRead_of_readReply rfl, fun _ => servedRead_of_readReply rfl, fun _ => servedRead_of_readReply rfl,
      fun _ _ => servedWrite_of_writeReply rfl, fun _ _ => servedWrite_of_writeReply rfl,
      fun _ _ _ => servedWrite_of_writeReply rfl, fun _ => rfl, fun _ => servedWrite_of_writeReply rfl,
      fun _ => servedWrite_of_writeReply rfl, fun _ _ => error_of_serveCommand_failed⟩⟩
  rintro (⟨a, rfl | rfl | rfl⟩ | ⟨z, rfl⟩) <;> rfl

/-- Settles O57: a failed command's memory is the old one, and so is that of a cycle whose fetch fails. -/
theorem failedOperationChangesNoBuffer : Obligations.FailedOperationChangesNoBuffer := by
  refine ⟨fun s c rest e h hfailed => ?_, fun s e hready hfetch => ?_⟩
  · rw [step_of_command h, serveCommand_of_failed hfailed]
  · obtain ⟨hrequests, hfault, hslot⟩ := hready
    have hstep : step s = .next (s.clearOut.latch e) :=
      (step_of_noRequest hrequests).trans (cycle_of_fetchError hfault hslot hfetch)
    exact ⟨_, hstep, rfl, rfl⟩

end Sys2Proof.Machine
end

section
/-! A word without a row is UNKNOWN (R66, R73): the validity refinement leaves the three ALU types only words that have
a row, and bit 23 separates the codes of the two multiply types. So the decode sub-step is that of the word's
classification. -/

namespace Sys2Proof

/-! ## The row of a record (R73, R112) -/

/-- The fields `Op`, `S` and `Rd` that the validity refinement accepts (R73). -/
def CompareFieldsValid (op : BitVec 4) (s : BitVec 1) (rd : BitVec 4) : Prop :=
  0x8 ≤ op → op ≤ 0xB → s = 1 ∧ (rd = 0 ∨ rd = 15)

/-- Fields that the refinement accepts have one of the two rows of their compare-class mnemonic (R112). -/
theorem compareRow_isSome {op : BitVec 4} {s : BitVec 1} {rd : BitVec 4} (h : CompareFieldsValid op s rd)
    (hop : aluName op ∈ [.tst, .teq, .cmp, .cmn]) (a b : Instr) :
    (compareRow s rd a b).isSome := by
  have hclass : ∀ op : BitVec 4, aluName op ∈ [.tst, .teq, .cmp, .cmn] → 0x8 ≤ op ∧ op ≤ 0xB := by decide
  obtain ⟨hlow, hhigh⟩ := hclass op hop
  obtain ⟨rfl, rfl | rfl⟩ := h hlow hhigh <;> rfl

theorem AluRegShiftImmFields.toInstr?_isSome (f : AluRegShiftImmFields) (h : CompareFieldsValid f.op f.s f.rd) :
    f.toInstr?.isSome := by
  cases hn : aluName f.op with
  | tst | teq | cmp | cmn => simp [AluRegShiftImmFields.toInstr?, hn, compareRow_isSome h]
  | _ => simp [AluRegShiftImmFields.toInstr?, hn]

theorem AluRegShiftRegFields.toInstr?_isSome (f : AluRegShiftRegFields) (h : CompareFieldsValid f.op f.s f.rd) :
    f.toInstr?.isSome := by
  cases hn : aluName f.op with
  | tst | teq | cmp | cmn => simp [AluRegShiftRegFields.toInstr?, hn, compareRow_isSome h]
  | _ => simp [AluRegShiftRegFields.toInstr?, hn]

theorem AluImmFields.toInstr?_isSome (f : AluImmFields) (h : CompareFieldsValid f.op f.s f.rd) :
    f.toInstr?.isSome := by
  cases hn : aluName f.op with
  | tst | teq | cmp | cmn => simp [AluImmFields.toInstr?, hn, compareRow_isSome h]
  | _ => simp [AluImmFields.toInstr?, hn]

theorem Classification.toInstr?_multiply_isSome (f : MultiplyFields) (h : f.op.getLsbD 2 = false) :
    (Classification.multiply f).toInstr?.isSome := by
  have hcodes : ∀ op : BitVec 3, op.getLsbD 2 = false →
      op.toNat = 0 ∨ op.toNat = 1 ∨ op.toNat = 2 ∨ op.toNat = 3 := by decide
  obtain hop | hop | hop | hop := hcodes f.op h <;> simp [Classification.toInstr?, hop]

theorem Classification.toInstr?_multiplyLong_isSome (f : MultiplyLongFields) (h : f.op.getLsbD 2 = true) :
    (Classification.multiplyLong f).toInstr?.isSome := by
  have hcodes : ∀ op : BitVec 3, op.getLsbD 2 = true →
      op.toNat = 4 ∨ op.toNat = 5 ∨ op.toNat = 6 ∨ op.toNat = 7 := by decide
  obtain hop | hop | hop | hop := hcodes f.op h <;> simp [Classification.toInstr?, hop]

end Sys2Proof

namespace Sys2Proof.Machine

/-! ## The row of a word (R66, R74) -/

/-- A word of a type whose filter has the validity refinement has fields that it accepts (R72, R73). -/
theorem compareFieldsValid_of_kindOf {w : Word} {f : Filter} (hf : f ∈ filters) (hkind : kindOf w = f.kind)
    (hneeds : f.kind.needsAluValid = true) :
    CompareFieldsValid (w.extractLsb' 21 4) (w.extractLsb' 20 1) (w.extractLsb' 12 4) := by
  have hmatch := validMatch_of_kindOf hf hkind
  rw [Filter.validMatch, hneeds, Bool.not_true, Bool.false_or, Bool.and_eq_true] at hmatch
  exact (aluValid_iff_fields w).mp hmatch.2

/-- Bit 23 is the top bit of `Op`: clear in every word of type 7 (R90), set in every word of type 8 (R91). -/
theorem multiplyOp_topBit {w : Word} (h : kindOf w = .multiply) : (w.extractLsb' 21 3).getLsbD 2 = false := by
  obtain ⟨-, -, -, -, h23, -⟩ := (filterMultiply_validMatch w).mp ((kindOf_eq_multiply_iff w).mp h)
  simp [h23]

theorem multiplyLongOp_topBit {w : Word} (h : kindOf w = .multiplyLong) : (w.extractLsb' 21 3).getLsbD 2 = true := by
  obtain ⟨-, -, -, -, h23, -⟩ :=
    (filterMultiplyLong_validMatch w).mp (validMatch_of_kindOf (f := filterMultiplyLong) (by decide) h)
  simp [h23]

/-- Every word with a type has a row (R66). -/
theorem toInstr?_extractAs_isSome {w : Word} (h : kindOf w ≠ .unknown) : (extractAs (kindOf w) w).toInstr?.isSome := by
  have hvalid := fun (f : Filter) => compareFieldsValid_of_kindOf (w := w) (f := f)
  cases hk : kindOf w with
  | unknown => exact absurd hk h
  | aluRegShiftImm => exact AluRegShiftImmFields.toInstr?_isSome _ (hvalid filterAluRegShiftImm (by decide) hk rfl)
  | aluRegShiftReg => exact AluRegShiftRegFields.toInstr?_isSome _ (hvalid filterAluRegShiftReg (by decide) hk rfl)
  | aluImm => exact AluImmFields.toInstr?_isSome _ (hvalid filterAluImm (by decide) hk rfl)
  | multiply => exact Classification.toInstr?_multiply_isSome _ (multiplyOp_topBit hk)
  | multiplyLong => exact Classification.toInstr?_multiplyLong_isSome _ (multiplyLongOp_topBit hk)
  | branchExchange | branch =>
    simp only [extractAs, Classification.toInstr?]
    split <;> rfl
  | _ => rfl

theorem classify_of_decodeWord_eq_none {w : Word} (h : decodeWord w = none) : classify w = .unknown := by
  by_contra hc
  have hrow := toInstr?_extractAs_isSome (mt classify_of_unknown hc)
  rw [← classify, ← decodeWord, h] at hrow
  cases hrow

/-! ## The decode sub-step of a cycle (R152) -/

theorem decodeAndRender_of_empty {s : State} (h : s.slotD = none) : decodeAndRender s = .next s := by
  simp only [decodeAndRender, h]

theorem decodeAndRender_of_occupied {s : State} {I : DecodedInstruction} (h : s.slotD = some I) :
    decodeAndRender s = decodeAs (classify I.opcode) s := by
  obtain ⟨hempty, -⟩ | ⟨J, hJ, hrow⟩ := decodeAndRender_eq s
  · cases h.symm.trans hempty
  · cases h.symm.trans hJ
    obtain ⟨i, hi, hs⟩ | ⟨hnone, hs⟩ := hrow
    · rw [hs, decodeWord_classification hi]
    · rw [hs, classify_of_decodeWord_eq_none hnone]

end Sys2Proof.Machine
end

section
/-! The cycle (R151 to R157): what its decode sub-step makes of a word that decodes cleanly and of one that does not,
what it fetches from BIOS, and what every cycle does to the pc, the slots and the ports. -/

namespace Sys2Proof.Machine

/-! ## DEC's ports and the two decode errors (R70, R77, R172) -/

theorem dec_of_standing {ambiguityFatal : Bool} {w : Word} (h : (ambiguityFatal && multiMatch w) = false) :
    dec ambiguityFatal w = standingDecOutput w (classify w) := by
  simp [dec, standingDecOutput, h]

theorem dec_of_ambiguous {ambiguityFatal : Bool} {w : Word} (h : (ambiguityFatal && multiMatch w) = true) :
    dec ambiguityFatal w = ambiguousDecOutput w := by
  simp [dec, ambiguousDecOutput, h]

/-- The error of a word that does not decode cleanly: the ambiguity comes before the hole (R172). -/
def decodeError (p : Config.Params) (w : Word) : Error :=
  if p.ambiguityFatal = true ∧ multiMatch w = true then .decodeAmbiguity w (matchVec w)
  else .unknownMnemonic .multiply 3

theorem DecodesCleanly.render_ok {p : Config.Params} {w : Word} (h : DecodesCleanly p w) (o : Config.FormatOptions)
    (a : Word) : ∃ r, render o a w (classify w) = .ok r := by
  obtain ⟨-, hline, -⟩ := renderFailsOnTheMultiplyHoleOnly o a w
  exact hline h.1

/-- A word that decodes cleanly goes to slot D with its type and fields, and its line to the port (R152). -/
theorem decodeAndRender_of_clean {s : State} {I : DecodedInstruction} (hD : s.slotD = some I)
    (h : DecodesCleanly s.params I.opcode) :
    ∃ r, render s.options I.address I.opcode (classify I.opcode) = .ok r ∧ decodeAndRender s = .next
      ((s.putDec (dec s.params.ambiguityFatal I.opcode)).putDecoded I (classify I.opcode) r) := by
  obtain ⟨r, hr⟩ := h.render_ok s.options I.address
  have hclear : s.ambiguous I.opcode = false := (Bool.and_eq_false_iff ..).mpr h.2
  exact ⟨r, hr, by
    rw [decodeAndRender_of_occupied hD, decodeAs_of_rendered hD hclear hr, dec_of_standing hclear]⟩

/-- A word that does not decode cleanly stays in slot D as it is, and its error is latched (R157). -/
theorem decodeAndRender_of_unclean {s : State} {I : DecodedInstruction} (hD : s.slotD = some I)
    (h : ¬ DecodesCleanly s.params I.opcode) :
    decodeAndRender s = .next
      ((s.putDec (dec s.params.ambiguityFatal I.opcode)).latch (decodeError s.params I.opcode)) := by
  rw [decodeAndRender_of_occupied hD]
  cases ha : s.ambiguous I.opcode with
  | true =>
    have hboth : s.params.ambiguityFatal = true ∧ multiMatch I.opcode = true := (Bool.and_eq_true_iff ..).mp ha
    rw [decodeAs_of_ambiguous hD ha, dec_of_ambiguous ha, decodeError, if_pos hboth]
  | false =>
    have hnot : ¬ (s.params.ambiguityFatal = true ∧ multiMatch I.opcode = true) := fun hboth =>
      Bool.false_ne_true (ha.symm.trans ((Bool.and_eq_true_iff ..).mpr hboth))
    have hhole : isMultiplyHole I.opcode := by
      by_contra hno
      exact h ⟨hno, (Bool.and_eq_false_iff ..).mp ha⟩
    obtain ⟨hfail, -⟩ := renderFailsOnTheMultiplyHoleOnly s.options I.address I.opcode
    rw [decodeAs_of_renderError hD ha (hfail hhole), dec_of_standing ha, decodeError, if_neg hnot]

/-! ## The step of a state that can begin a cycle (R20, R151) -/

theorem Ready.requests_eq {s : State} (h : Ready s) : s.requests = [] := h.1
theorem Ready.fault_eq {s : State} (h : Ready s) : s.fault = none := h.2.1
theorem Ready.slotX_eq {s : State} (h : Ready s) : s.slotX = none := h.2.2

theorem step_of_latched {s : State} {e : Error} (hrequests : s.requests = []) (hfault : s.fault = some e) :
    step s = .fault (.latched e) :=
  (step_of_noRequest hrequests).trans (cycle_of_latched hfault)

section ReadyStep
variable {s : State} {w : Word} (hready : Ready s) (hfetch : read32 s.mem s.pc = .ok w)
include hready hfetch

theorem step_of_ready : step s = finishCycle (decodeAndRender (s.clearOut.shiftIn w)) := by
  obtain ⟨hrequests, hfault, hslot⟩ := hready
  exact (step_of_noRequest hrequests).trans (cycle_of_fetched hfault hslot hfetch)

theorem step_of_emptyF (hF : s.slotF = none) : step s = .next (executeAndRelease (s.clearOut.shiftIn w)) := by
  have hfault : (s.clearOut.shiftIn w).fault = none := hready.fault_eq
  rw [step_of_ready hready hfetch, decodeAndRender_of_empty hF, finishCycle_of_clear hfault]

theorem step_of_clean {I : DecodedInstruction} (hF : s.slotF = some I) (h : DecodesCleanly s.params I.opcode) :
    ∃ r, render s.options I.address I.opcode (classify I.opcode) = .ok r ∧ step s = .next (executeAndRelease
      (((s.clearOut.shiftIn w).putDec (dec s.params.ambiguityFatal I.opcode)).putDecoded I (classify I.opcode) r)) := by
  obtain ⟨r, hr, hdecode⟩ := decodeAndRender_of_clean (s := s.clearOut.shiftIn w) hF h
  exact ⟨r, hr, by rw [step_of_ready hready hfetch, hdecode]; exact finishCycle_of_clear hready.fault_eq⟩

theorem step_of_unclean {I : DecodedInstruction} (hF : s.slotF = some I) (h : ¬ DecodesCleanly s.params I.opcode) :
    step s = .next (((s.clearOut.shiftIn w).putDec (dec s.params.ambiguityFatal I.opcode)).latch
      (decodeError s.params I.opcode)) := by
  rw [step_of_ready hready hfetch, decodeAndRender_of_unclean (s := s.clearOut.shiftIn w) hF h]
  rfl

end ReadyStep

/-- Settles O28: slot F is empty, or its word decodes cleanly, or it does not. -/
theorem cycleDecodesAndRendersTheWordInSlotF : Obligations.CycleDecodesAndRendersTheWordInSlotF := by
  refine fun s w hready hfetch => ⟨fun I hF => ?_, fun hF => ?_⟩
  · by_cases hclean : DecodesCleanly s.params I.opcode
    · obtain ⟨r, hr, hstep⟩ := step_of_clean hready hfetch hF hclean
      exact ⟨_, hstep, by simp, fun _ => ⟨by simp [hready.fault_eq], by simp, r, hr, by simp [State.decodedOutput]⟩,
        fun h => absurd hclean h⟩
    · exact ⟨_, step_of_unclean hready hfetch hF hclean, rfl, fun h => absurd h hclean, fun _ => ⟨rfl, rfl⟩⟩
  · exact ⟨_, step_of_emptyF hready hfetch hF, by simp [hready.fault_eq], by simp [hF], by simp, by simp⟩

/-- Settles O31: the state after the fault is the shifted one with DEC's ports driven and the error in the latch. -/
theorem decodeFaultKeepsTheShiftAndLeavesXOccupied : Obligations.DecodeFaultKeepsTheShiftAndLeavesXOccupied := by
  intro s w I hready hfetch hF hunclean
  refine ⟨_, step_of_unclean hready hfetch hF hunclean, rfl, rfl, by simp [hF], rfl, rfl,
    ⟨_, step_of_latched hready.requests_eq rfl⟩, by simp, fun _ => rfl, fun r hr => ?_, rfl, rfl⟩
  exact State.shiftIn_readReg s.clearOut w r hr

/-! ## What a cycle does to the pc, the slots and the ports (R151, R153) -/

/-- A cycle that fetches shifts, advances the pc, and releases the old D unless its decode sub-step fails. -/
theorem cycle_shifts_of_fetched {s : State} {w : Word} (hfault : s.fault = none) (hslot : s.slotX = none)
    (hfetch : read32 s.mem s.pc = .ok w) :
    ∃ t, cycle s = .next t ∧ t.slotF = some { address := s.pc, opcode := w, decoded := none } ∧ t.pc = s.pc + 4
      ∧ t.out.fetched = some (s.pc, w)
      ∧ t.slotD.map (fun I => (I.address, I.opcode)) = s.slotF.map (fun I => (I.address, I.opcode))
      ∧ ((t.fault = none ∧ t.out.executed = s.slotD ∧ t.slotX = none) ∨ (t.fault.isSome ∧ t.slotX = s.slotD)) := by
  obtain ⟨t, ht, hx, -, -, -, hF, -, -, -, -, hfetched, hD, hend⟩ := finish_decode_frame (s.clearOut.shiftIn w) rfl
  refine ⟨t, (cycle_of_fetched hfault hslot hfetch).trans ht, hF, by simp [State.pc_of_x hx], hfetched, hD, ?_⟩
  obtain ⟨hclear, hreleased, hexecuted⟩ | ⟨hlatched, hkept, -⟩ := hend
  · exact .inl ⟨hclear, hexecuted, hreleased⟩
  · exact .inr ⟨hlatched, hkept⟩

/-- A cycle that finds slot X occupied fetches and shifts nothing, and releases X unless its decode sub-step fails. -/
theorem cycle_keeps_of_occupied {s : State} (hfault : s.fault = none) (hslot : s.slotX.isSome) :
    ∃ t, cycle s = .next t ∧ t.pc = s.pc ∧ t.out.fetched = none ∧ t.slotF = s.slotF
      ∧ t.slotD.map (fun I => (I.address, I.opcode)) = s.slotD.map (fun I => (I.address, I.opcode))
      ∧ (t.fault = none → t.slotX = none ∧ t.out.executed = s.slotX) := by
  obtain ⟨I, hI⟩ := Option.isSome_iff_exists.mp hslot
  obtain ⟨t, ht, hx, -, -, -, hF, -, -, -, -, hfetched, hD, hend⟩ := finish_decode_frame s.clearOut rfl
  refine ⟨t, (cycle_of_occupied hfault hI).trans ht, State.pc_of_x hx, hfetched, hF, hD, fun hclear => ?_⟩
  obtain ⟨-, hreleased, hexecuted⟩ | ⟨hlatched, -⟩ := hend
  · exact ⟨hreleased, hexecuted⟩
  · simp [hclear] at hlatched

/-- Settles O29: with slot X empty the cycle fetches and shifts; with it occupied it keeps what it finds. -/
theorem successfulFetchShiftsAndAdvancesThePc : Obligations.SuccessfulFetchShiftsAndAdvancesThePc := by
  refine ⟨fun s w ⟨hrequests, hfault, hslot⟩ hfetch => ?_, fun s hrequests hfault hslot => ?_⟩
  · rw [step_of_noRequest hrequests]
    exact cycle_shifts_of_fetched hfault hslot hfetch
  · obtain ⟨t, ht, hpc, hfetched, hF, hD, -⟩ := cycle_keeps_of_occupied hfault hslot
    exact ⟨t, (step_of_noRequest hrequests).trans ht, hpc, hfetched, hF, hD⟩

/-- How a cycle leaves the pc and slots F and D: shifted with the fetched word, or as they were (R151). -/
def ShiftedOrKept (s t : State) : Prop :=
  (∃ w, t.out.fetched = some (s.pc, w) ∧ t.pc = s.pc + 4
      ∧ t.slotF = some { address := s.pc, opcode := w, decoded := none }
      ∧ t.slotD.map (fun I => (I.address, I.opcode)) = s.slotF.map (fun I => (I.address, I.opcode)))
  ∨ (t.out.fetched = none ∧ t.pc = s.pc ∧ t.slotF = s.slotF
      ∧ t.slotD.map (fun I => (I.address, I.opcode)) = s.slotD.map (fun I => (I.address, I.opcode)))

theorem cycle_slots {s t : State} (h : cycle s = .next t) :
    ShiftedOrKept s t
    ∧ (t.fault = none → t.slotX = none ∧ t.out.executed = if s.slotX.isSome then s.slotX else s.slotD) := by
  obtain ⟨e, -, hc⟩ | ⟨-, -, e, -, hc⟩ | ⟨hfault, hslot, w, hfetch, -⟩ | ⟨hfault, I, hslot, -⟩ := cycle_cases s
  · cases hc.symm.trans h
  · cases hc.symm.trans h
    exact ⟨.inr ⟨rfl, rfl, rfl, rfl⟩, fun hclear => by simp at hclear⟩
  · obtain ⟨u, hu, hF, hpc, hfetched, hD, hend⟩ := cycle_shifts_of_fetched hfault hslot hfetch
    cases hu.symm.trans h
    refine ⟨.inl ⟨w, hfetched, hpc, hF, hD⟩, fun hclear => ?_⟩
    obtain ⟨-, hexecuted, hreleased⟩ | ⟨hlatched, -⟩ := hend
    · simp [hreleased, hexecuted, hslot]
    · simp [hclear] at hlatched
  · obtain ⟨u, hu, hpc, hfetched, hF, hD, hend⟩ := cycle_keeps_of_occupied hfault (by simp [hslot])
    cases hu.symm.trans h
    exact ⟨.inr ⟨hfetched, hpc, hF, hD⟩, fun hclear => by simpa [hslot] using hend hclear⟩

/-- Settles O32: an unasked cycle by the frame of a cycle and its slots, and so an asked one, whose options and requests
are set before it begins. -/
theorem noCycleExecutesAnything : Obligations.NoCycleExecutesAnything := by
  intro s t hrequests hstep
  obtain ⟨o, rest, hcycle⟩ : ∃ o rest, cycle { s with requests := rest, options := o } = .next t := by
    obtain hnone | ⟨o, rest, hasked⟩ := hrequests
    · exact ⟨s.options, s.requests, (step_of_noRequest hnone).symm.trans hstep⟩
    · exact ⟨o, rest, (step_of_request hasked).symm.trans hstep⟩
  obtain ⟨hregs, hbank, hpsr, hmem, hparams, -, -, hdraws, -⟩ := cycle_frame hcycle
  obtain ⟨hshift, hend⟩ := cycle_slots hcycle
  exact ⟨hregs, hbank, hpsr, hmem, hparams, hdraws, hshift, hend⟩

/-! ## The fetch from BIOS (R156) -/

theorem read32_of_bios {m : Memory} {a : Word} (h : a.toNat + 4 ≤ 0x4000) : read32 m a = .ok (wordAt m a.toNat) :=
  read32_of_accepted ((accessCheck_eq_none_iff ..).mpr
    ⟨.inl (by omega), .inl (by omega), .inl (by omega)⟩)

theorem read32_of_biosEnd (m : Memory) : read32 m 0x4000 = .error (.invalidMemoryAccess .outOfZone 0x4000) :=
  read32_of_error (accessCheck_of_first rfl)

/-- An aligned pc that has not passed the end of BIOS stands before its last word or at the end. -/
theorem PipeInv.pc_of_fetchError {s : State} {e : Error} (h : PipeInv s) (he : read32 s.mem s.pc = .error e) :
    s.pc = 0x4000 := by
  have haligned := h.pcAligned
  have hbios := h.pcInBios
  have hend : s.pc.toNat = 0x4000 := by
    by_contra hne
    rw [read32_of_bios (by omega)] at he
    cases he
  exact BitVec.eq_of_toNat_eq hend

/-- Settles O30: the cycle ends with the error in the latch, which no cycle passes; and within BIOS only its end is no
address of a word. -/
theorem fetchErrorLatchesAndChangesNothingElse : Obligations.FetchErrorLatchesAndChangesNothingElse := by
  refine fun s e ⟨hrequests, hfault, hslot⟩ hfetch => ⟨?_, ?_, fun hinv => ?_⟩
  · exact (step_of_noRequest hrequests).trans (cycle_of_fetchError hfault hslot hfetch)
  · exact step_of_latched hrequests rfl
  · have hpc := hinv.pc_of_fetchError hfetch
    rw [hpc, read32_of_biosEnd] at hfetch
    exact ⟨hpc, (Except.error.inj hfetch).symm⟩

end Sys2Proof.Machine
end

section
/-! The schedule from empty slots (R154), by induction on the number of cycles: each cycle whose words decode cleanly
moves every instruction one slot on. -/

namespace Sys2Proof.Machine

/-- The instruction with the type and fields of its word (R15, R78). -/
def DecodedInstruction.classified (I : DecodedInstruction) : DecodedInstruction :=
  { I with decoded := some (classify I.opcode) }

/-- The instruction in slot F after the cycle that fetched word `j` of BIOS. -/
def fetchedWord (m : Memory) (j : Nat) : DecodedInstruction := ⟨BitVec.ofNat 32 (4 * j), wordAt m (4 * j), none⟩

theorem executeAndRelease_ready {s : State} (hrequests : s.requests = []) (hfault : s.fault = none) :
    Ready (executeAndRelease s) :=
  ⟨by simp [hrequests], by simp [hfault], by simp⟩

/-- A cycle whose word to decode, if any, decodes cleanly: F to D with its type and fields, D to the port `executed`. -/
theorem step_advances_of_clean {s : State} {w : Word} (hready : Ready s) (hfetch : read32 s.mem s.pc = .ok w)
    (hclean : ∀ I, s.slotF = some I → DecodesCleanly s.params I.opcode) :
    ∃ t, step s = .next t ∧ Ready t ∧ t.mem = s.mem ∧ t.params = s.params ∧ t.pc = s.pc + 4
      ∧ t.slotF = some ⟨s.pc, w, none⟩ ∧ t.slotD = s.slotF.map (·.classified) ∧ t.out.fetched = some (s.pc, w)
      ∧ t.out.decoded.map (·.instruction) = t.slotD ∧ t.out.executed = s.slotD := by
  cases hF : s.slotF with
  | none =>
    exact ⟨_, step_of_emptyF hready hfetch hF, executeAndRelease_ready hready.requests_eq hready.fault_eq, by simp,
      by simp, by simp, by simp, by simp [hF], by simp, by simp [hF], executeAndRelease_executed _ rfl⟩
  | some I =>
    obtain ⟨r, -, hstep⟩ := step_of_clean hready hfetch hF (hclean I hF)
    exact ⟨_, hstep, executeAndRelease_ready hready.requests_eq hready.fault_eq, by simp, by simp, by simp, by simp,
      by simp [DecodedInstruction.classified], by simp, by simp [State.decodedOutput], executeAndRelease_executed _ rfl⟩

/-- Where the pipeline stands after `k` cycles from the state `s` (R154). -/
structure Scheduled (s : State) (k : Nat) (t : State) : Prop where
  ready : Ready t
  mem : t.mem = s.mem
  params : t.params = s.params
  pc : t.pc = BitVec.ofNat 32 (4 * k)
  slotF : t.slotF = if 1 ≤ k then some (fetchedWord s.mem (k - 1)) else none
  slotD : t.slotD = if 2 ≤ k then some (fetchedWord s.mem (k - 2)).classified else none

theorem Scheduled.zero {s : State} (hready : Ready s) (hpc : s.pc = 0) (hF : s.slotF = none) (hD : s.slotD = none) :
    Scheduled s 0 s :=
  ⟨hready, rfl, rfl, hpc, hF, hD⟩

/-- Cycle `k + 1` of the schedule, with what its ports carry. -/
theorem Scheduled.step {s t : State} {k : Nat} (h : Scheduled s k t) (hk : k < 4096)
    (hclean : 1 ≤ k → DecodesCleanly s.params (wordAt s.mem (4 * (k - 1)))) :
    ∃ u, Machine.step t = .next u ∧ Scheduled s (k + 1) u
      ∧ u.out.fetched = some (BitVec.ofNat 32 (4 * k), wordAt s.mem (4 * k))
      ∧ u.out.decoded.map (·.instruction) = u.slotD ∧ u.out.executed = t.slotD := by
  have haddress : t.pc.toNat = 4 * k := by
    rw [h.pc]
    exact Nat.mod_eq_of_lt (by omega)
  have hfetch : read32 t.mem t.pc = .ok (wordAt s.mem (4 * k)) := by
    rw [read32_of_bios (by omega), haddress, h.mem]
  have hcleanF : ∀ I, t.slotF = some I → DecodesCleanly t.params I.opcode := by
    intro I hI
    rw [h.slotF] at hI
    split_ifs at hI with hpos
    cases hI
    rw [h.params]
    exact hclean hpos
  obtain ⟨u, hu, hready, hmem, hparams, hpc, hF, hD, hfetched, hdecoded, hexecuted⟩ :=
    step_advances_of_clean h.ready hfetch hcleanF
  refine ⟨u, hu, ⟨hready, hmem.trans h.mem, hparams.trans h.params, ?_, ?_, ?_⟩, ?_, hdecoded, hexecuted⟩
  · rw [hpc, h.pc, Nat.mul_succ, BitVec.ofNat_add]
    rfl
  · rw [hF, h.pc, if_pos (by omega)]
    rfl
  · rw [hD, h.slotF]
    split_ifs with h1 h2 h2
    · rfl
    · omega
    · omega
    · rfl
  · rw [hfetched, h.pc]

/-- A run that completes goes on with one more step. -/
theorem run_succ_of_next {M : Host.Core} {k : Nat} {s t : M.State} (h : M.run k s = .next t) :
    M.run (k + 1) s = M.step t := by
  induction k generalizing s with
  | zero =>
    cases h
    simp only [Host.Core.run]
    cases M.step t <;> rfl
  | succ k ih =>
    rw [Host.Core.run] at h ⊢
    cases hs : M.step s with
    | next s' =>
      rw [hs] at h
      exact ih h
    | fault | refused => simp [hs] at h

theorem run_scheduled {s : State} (hready : Ready s) (hpc : s.pc = 0) (hF : s.slotF = none) (hD : s.slotD = none)
    (k : Nat) (hk : k ≤ 4096) (hclean : ∀ j, j + 1 < k → DecodesCleanly s.params (wordAt s.mem (4 * j))) :
    ∃ t, Host.Core.run core k s = .next t ∧ Scheduled s k t := by
  induction k with
  | zero => exact ⟨s, rfl, .zero hready hpc hF hD⟩
  | succ k ih =>
    obtain ⟨t, hrun, ht⟩ := ih (by omega) fun j hj => hclean j (by omega)
    obtain ⟨u, hu, hu', -⟩ := ht.step hk fun hpos => hclean (k - 1) (by omega)
    exact ⟨u, (run_succ_of_next hrun).trans hu, hu'⟩

/-- Settles O43: the last of the `k` cycles, after a run that kept the schedule. -/
theorem scheduleAfterReset : Obligations.ScheduleAfterReset := by
  intro s k hready hpc hF hD hpos hk hclean
  obtain ⟨n, rfl⟩ : ∃ n, k = n + 1 := ⟨k - 1, by omega⟩
  obtain ⟨t, hrun, ht⟩ := run_scheduled hready hpc hF hD n (by omega) fun j hj => hclean j (by omega)
  obtain ⟨u, hstep, hu, hfetched, hdecoded, hexecuted⟩ := ht.step hk fun hn => hclean (n - 1) (by omega)
  refine ⟨u, (run_succ_of_next hrun).trans hstep, hu.pc, hu.ready.fault_eq, hu.ready.slotX_eq, hu.mem, hfetched, ?_,
    hu.slotD, hdecoded, ?_⟩
  · rw [hu.slotF, if_pos hpos]
    rfl
  · rw [hexecuted, ht.slotD]
    split_ifs with h2 h3 h3
    · rfl
    · omega
    · omega
    · rfl

end Sys2Proof.Machine
end

section
/-! Reset by the host (R180): the step that serves it, the first cycle after it, and the latch it alone clears. -/

namespace Sys2Proof.Machine

theorem step_of_reset {s : State} {rest : List Request} (h : s.requests = .reset :: rest) :
    step s = .next ({ s with requests := rest } : State).hostReset :=
  step_of_request h

theorem State.hostReset_ready {s : State} (h : s.requests = []) : Ready s.hostReset := ⟨h, rfl, rfl⟩

/-- The first cycle after a reset finds the pc at the entry and fetches there. -/
theorem step_hostReset_fetches_entry {s : State} (h : s.requests = []) :
    ∃ u, step s.hostReset = .next u ∧ u.out.fetched = some (0, wordAt s.hostReset.mem 0) := by
  have hfetch : read32 s.hostReset.mem s.hostReset.pc = .ok (wordAt s.hostReset.mem 0) := by
    rw [State.hostReset_pc]
    exact read32_of_bios (by decide)
  exact ⟨_, step_of_emptyF (State.hostReset_ready h) hfetch rfl, by simp⟩

theorem clear_of_cycle_next {s t : State} (h : cycle s = .next t) : s.fault = none := by
  cases hfault : s.fault with
  | none => rfl
  | some e => cases (cycle_of_latched hfault).symm.trans h

/-- No cycle runs while the latch is set and a command leaves the latch alone, so only a reset clears it (R20, R142). -/
theorem step_keeps_latch_or_resets {s t : State} {e : Error} (hfault : s.fault = some e) (hstep : step s = .next t) :
    t.fault = some e ∨ ∃ rest, s.requests = .reset :: rest := by
  obtain ⟨-, hcycle⟩ | ⟨rest, ⟨hreset, -⟩ | ⟨c, -, hserve⟩ | ⟨o, -, hcycle⟩⟩ := step_cases s
  · have hclear := clear_of_cycle_next (hcycle.symm.trans hstep)
    cases hfault.symm.trans hclear
  · exact .inr ⟨rest, hreset⟩
  · cases hserve.symm.trans hstep
    exact .inl hfault
  · have hclear := clear_of_cycle_next (hcycle.symm.trans hstep)
    cases hfault.symm.trans hclear

/-- Settles O37: the reset's state field by field, the fetch of the first cycle after it, and the latch that every other
step keeps. -/
theorem hostResetGivesTheResetValues : Obligations.HostResetGivesTheResetValues := by
  refine ⟨fun s rest h => ⟨_, step_of_reset h, State.hostReset_readReg _, State.hostReset_pc _, rfl, rfl, rfl, rfl,
    rfl, rfl, rfl, fun hrest => step_hostReset_fetches_entry hrest⟩, fun s t hlatched hstep hclear => ?_⟩
  obtain ⟨e, he⟩ := Option.isSome_iff_exists.mp hlatched
  obtain hkept | hreset := step_keeps_latch_or_resets he hstep
  · cases hclear.symm.trans hkept
  · exact hreset

end Sys2Proof.Machine
end

section
/-! The pipeline invariant under a step (R155, R12): a cycle keeps it, whoever asks for it, and so do a reset and a
command. -/

namespace Sys2Proof.Machine

/-- What a step that completes is: a cycle under some options, a reset or a command (R8, R141). -/
theorem step_next_cases {s t : State} (h : step s = .next t) :
    (∃ rest o, cycle { s with requests := rest, options := o } = .next t)
    ∨ (∃ rest, s.requests = .reset :: rest ∧ t = ({ s with requests := rest } : State).hostReset)
    ∨ ∃ c rest, s.requests = .command c :: rest ∧ t = ({ s with requests := rest } : State).serve c := by
  obtain ⟨-, hcycle⟩ | ⟨rest, ⟨hrequest, hreset⟩ | ⟨c, hrequest, hserve⟩ | ⟨o, -, hcycle⟩⟩ := step_cases s
  · exact .inl ⟨s.requests, s.options, hcycle.symm.trans h⟩
  · exact .inr (.inl ⟨rest, hrequest, Host.Outcome.next.inj (h.symm.trans hreset)⟩)
  · exact .inr (.inr ⟨c, rest, hrequest, Host.Outcome.next.inj (h.symm.trans hserve)⟩)
  · exact .inl ⟨rest, o, hcycle.symm.trans h⟩

/-- A cycle that ends with a clear latch has released slot X. -/
theorem eq_executeAndRelease_of_clear {s t : State} (h : finishCycle (.next s) = .next t) (hclear : t.fault = none) :
    t = executeAndRelease s := by
  cases hfault : s.fault with
  | none => exact (Host.Outcome.next.inj ((finishCycle_of_clear hfault).symm.trans h)).symm
  | some e =>
    cases (finishCycle_of_latched hfault).symm.trans h
    cases hfault.symm.trans hclear

/-- A cycle that ends with a clear latch leaves the instruction in slot D with the type and fields of its word (R152). -/
theorem slotD_of_finished_clear {s t : State} (h : finishCycle (decodeAndRender s) = .next t)
    (hclear : t.fault = none) : t.slotD = s.slotD.map (·.classified) := by
  cases hD : s.slotD with
  | none =>
    rw [decodeAndRender_of_empty hD] at h
    rw [eq_executeAndRelease_of_clear h hclear, executeAndRelease_slotD, hD]
    rfl
  | some I =>
    by_cases hclean : DecodesCleanly s.params I.opcode
    · obtain ⟨r, -, hdecode⟩ := decodeAndRender_of_clean hD hclean
      rw [hdecode] at h
      rw [eq_executeAndRelease_of_clear h hclear, executeAndRelease_slotD]
      rfl
    · rw [decodeAndRender_of_unclean hD hclean] at h
      cases h
      cases hclear

/-- A pc from which a word was fetched has not passed the last word of BIOS, so it may advance. -/
theorem PipeInv.pc_of_fetched {s : State} {w : Word} (h : PipeInv s) (hfetch : read32 s.mem s.pc = .ok w) :
    s.pc.toNat + 4 ≤ 0x4000 := by
  have haligned := h.pcAligned
  have hbios := h.pcInBios
  by_contra hend
  have hpc : s.pc = 0x4000 := BitVec.eq_of_toNat_eq (show s.pc.toNat = 0x4000 by omega)
  rw [hpc, read32_of_biosEnd] at hfetch
  cases hfetch

theorem pipeInv_of_fetchError {s : State} (h : PipeInv s) (e : Error) : PipeInv (s.clearOut.latch e) :=
  { pcAligned := h.pcAligned
    pcInBios := h.pcInBios
    xEmpty := nofun
    fAddress := h.fAddress
    dAddress := h.dAddress
    dDecoded := nofun
    xAddress := h.xAddress }

/-- An instruction of a slot, found in the slot's address and word, which the decode sub-step keeps. -/
theorem exists_of_map_eq {o p : Option DecodedInstruction}
    (h : o.map (fun I => (I.address, I.opcode)) = p.map (fun I => (I.address, I.opcode))) {I : DecodedInstruction}
    (hI : o = some I) : ∃ J, p = some J ∧ J.address = I.address ∧ J.opcode = I.opcode := by
  subst hI
  obtain ⟨J, hJ, hpair⟩ := Option.map_eq_some_iff.mp h.symm
  exact ⟨J, hJ, Prod.mk.inj hpair⟩

/-- A cycle that fetches moves every instruction one slot on, and the pc one word on. -/
theorem pipeInv_of_shifted {s t : State} {w : Word} (h : PipeInv s) (hfetch : read32 s.mem s.pc = .ok w)
    (ht : finishCycle (decodeAndRender (s.clearOut.shiftIn w)) = .next t) : PipeInv t := by
  obtain ⟨u, hu, hx, -, -, -, hF, -, -, -, -, -, hD, hend⟩ := finish_decode_frame (s.clearOut.shiftIn w) rfl
  cases hu.symm.trans ht
  have hbios := h.pc_of_fetched hfetch
  have haligned := h.pcAligned
  have hpc : t.pc = s.pc + 4 := by simp [State.pc_of_x hx]
  have hpcNat : t.pc.toNat = s.pc.toNat + 4 := by rw [hpc]; bv_omega
  have hslotF : t.slotF = some ⟨s.pc, w, none⟩ := hF
  refine ⟨by omega, by omega, fun hclear => ?_, fun I hI => ?_, fun I hI => ?_, fun I hI hclear => ?_, fun I hI => ?_⟩
  · obtain ⟨-, hreleased, -⟩ | ⟨hlatched, -⟩ := hend
    · exact hreleased
    · simp [hclear] at hlatched
  · cases hslotF.symm.trans hI
    exact ⟨hpc.symm, rfl⟩
  · obtain ⟨J, hJ, haddress, -⟩ := exists_of_map_eq hD hI
    obtain ⟨hJaddress, -⟩ := h.fAddress J hJ
    exact ⟨by rw [hpc, ← hJaddress, haddress]; bv_omega, by simp [hslotF]⟩
  · rw [slotD_of_finished_clear ht hclear] at hI
    obtain ⟨J, -, rfl⟩ := Option.map_eq_some_iff.mp hI
    rfl
  · obtain ⟨-, hreleased, -⟩ | ⟨-, hkept, -⟩ := hend
    · cases hreleased.symm.trans hI
    · have hold : s.slotD = some I := hkept.symm.trans hI
      obtain ⟨haddress, hoccupied⟩ := h.dAddress I hold
      obtain ⟨J, hJ⟩ := Option.isSome_iff_exists.mp hoccupied
      have hslotD : (t.slotD.map fun I => (I.address, I.opcode)).isSome := by rw [hD]; simp [hJ]
      exact ⟨by rw [hpc, ← haddress]; bv_omega, by simpa using hslotD⟩

theorem cycle_keeps_pipeInv {s t : State} (h : PipeInv s) (ht : cycle s = .next t) : PipeInv t := by
  obtain ⟨e, -, hc⟩ | ⟨-, -, e, -, hc⟩ | ⟨-, -, w, hfetch, hc⟩ | ⟨hfault, I, hslot, -⟩ := cycle_cases s
  · cases hc.symm.trans ht
  · cases hc.symm.trans ht
    exact pipeInv_of_fetchError h e
  · exact pipeInv_of_shifted h hfetch (hc.symm.trans ht)
  · cases (h.xEmpty hfault).symm.trans hslot

/-- The invariant is about the pc, the slots and the latch only. -/
theorem PipeInv.congr {s t : State} (h : PipeInv s) (hpc : t.pc = s.pc) (hF : t.slotF = s.slotF)
    (hD : t.slotD = s.slotD) (hX : t.slotX = s.slotX) (hfault : t.fault = s.fault) : PipeInv t := by
  obtain ⟨h1, h2, h3, h4, h5, h6, h7⟩ := h
  constructor <;> simp only [hpc, hF, hD, hX, hfault] <;> assumption

theorem pipeInv_of_emptySlots {s : State} (hpc : s.pc = 0) (hF : s.slotF = none) (hD : s.slotD = none)
    (hX : s.slotX = none) : PipeInv s := by
  constructor <;> simp [hpc, hF, hD, hX]

/-- Settles O39: a cycle keeps the invariant whatever its options, a reset empties the slots, and a command touches
nothing it speaks of. -/
theorem everyStepKeepsThePipelineInvariant : Obligations.EveryStepKeepsThePipelineInvariant := by
  intro s t h hstep
  obtain ⟨rest, o, hcycle⟩ | ⟨rest, -, rfl⟩ | ⟨c, rest, -, rfl⟩ := step_next_cases hstep
  · have hasked : PipeInv { s with requests := rest, options := o } := h.congr rfl rfl rfl rfl rfl
    exact cycle_keeps_pipeInv hasked hcycle
  · exact pipeInv_of_emptySlots (State.hostReset_pc _) rfl rfl rfl
  · exact h.congr rfl rfl rfl rfl rfl

/-! ## The inert registers (R11, R13, R14) and the canonical memory -/

theorem cycle_keeps_inertZero {s t : State} (h : InertZero s) (ht : cycle s = .next t) : InertZero t := by
  obtain ⟨hregs, hbank, hpsr⟩ := h
  obtain ⟨hkept, hbankKept, hpsrKept, -⟩ := cycle_frame ht
  exact ⟨fun r hr => (hkept r hr).trans (hregs r hr), hbankKept.trans hbank, hpsrKept.trans hpsr⟩

/-- Settles O41: a cycle writes no register but the pc, a reset writes zeros, a command writes none. -/
theorem everyStepKeepsTheInertRegistersZero : Obligations.EveryStepKeepsTheInertRegistersZero := by
  intro s t h hstep
  obtain ⟨rest, o, hcycle⟩ | ⟨rest, -, rfl⟩ | ⟨c, rest, -, rfl⟩ := step_next_cases hstep
  · exact cycle_keeps_inertZero (s := { s with requests := rest, options := o }) h hcycle
  · exact ⟨fun r _ => State.hostReset_readReg _ r, rfl, rfl⟩
  · exact h

/-- What a step leaves in memory: a cycle what was there, a reset a free content (R181), a command what it serves. -/
theorem step_mem_cases {s t : State} (h : step s = .next t) :
    t.mem = s.mem ∨ (∃ rest, s.requests = .reset :: rest)
      ∨ ∃ c rest, s.requests = .command c :: rest ∧ t.mem = (serveCommand s.mem c).1 := by
  obtain ⟨rest, o, hcycle⟩ | ⟨rest, hrequest, -⟩ | ⟨c, rest, hrequest, rfl⟩ := step_next_cases h
  · obtain ⟨-, -, -, hmem, -⟩ := cycle_frame hcycle
    exact .inl hmem
  · exact .inr (.inl ⟨rest, hrequest⟩)
  · exact .inr (.inr ⟨c, rest, hrequest, rfl⟩)

/-- Settles O42: a free content lists no byte, and every command keeps the canonical form. -/
theorem everyStepKeepsTheMemoryCanonical : Obligations.EveryStepKeepsTheMemoryCanonical := by
  intro s t h hstep
  obtain hmem | ⟨rest, hrequest⟩ | ⟨c, rest, -, hmem⟩ := step_mem_cases hstep
  · exact hmem ▸ h
  · cases (step_of_reset hrequest).symm.trans hstep
    exact Memory.fresh_wf _
  · exact hmem ▸ serveCommand_wf c h

/-- Settles O40: the state after reset has empty slots, zeros and the free content number 0. -/
theorem invariantsHoldAfterReset : Obligations.InvariantsHoldAfterReset :=
  ⟨pipeInv_of_emptySlots State.pc_reset rfl rfl rfl, ⟨fun r _ => State.readReg_reset r, rfl, rfl⟩, Memory.fresh_wf 0⟩

end Sys2Proof.Machine
end

section
/-! What is given since the last reset (R181), under a step and under the fill of a load (R138, R139). -/

namespace Sys2Proof.Machine

/-! ## The fill of a load (log entry 16) -/

/-- The memory with 0xFF written to the first `n` bytes of a buffer in turn, as the fill of a load is specified. -/
def fillOnes (m : Memory) (b : Buffer) (n : Nat) : Memory :=
  (List.range n).foldl (fun m i => m.set (b.firstCell + i) 0xFF) m

theorem fillOnes_succ (m : Memory) (b : Buffer) (n : Nat) :
    fillOnes m b (n + 1) = (fillOnes m b n).set (b.firstCell + n) 0xFF := by
  simp [fillOnes, List.range_succ]

theorem fillOnes_wf {m : Memory} {b : Buffer} (hm : m.wf) {n : Nat} (hn : n ≤ b.size) : (fillOnes m b n).wf := by
  induction n with
  | zero => exact hm
  | succ n ih =>
    rw [fillOnes_succ]
    exact Memory.set_wf (ih (by omega)) (isStorage_cell b hn)

theorem fillOnes_draw (m : Memory) (b : Buffer) (n : Nat) : (fillOnes m b n).draw = m.draw := by
  induction n with
  | zero => rfl
  | succ n ih => rw [fillOnes_succ, Memory.set_draw, ih]

theorem fillOnes_filled (m : Memory) (b : Buffer) (n : Nat) : (fillOnes m b n).filled = m.filled := by
  induction n with
  | zero => rfl
  | succ n ih => rw [fillOnes_succ, Memory.set_filled, ih]

theorem fillOnes_known {m : Memory} {b : Buffer} (hm : m.wf) {n : Nat} (hn : n ≤ b.size) (cell : Nat) :
    (fillOnes m b n).known cell =
      if b.firstCell ≤ cell ∧ cell < b.firstCell + n then some 0xFF else m.known cell := by
  induction n with
  | zero => rw [if_neg (by omega)]; rfl
  | succ n ih =>
    rw [fillOnes_succ]
    by_cases hcell : cell = b.firstCell + n
    · subst hcell
      rw [Memory.known_set_same (fillOnes_wf hm (by omega)).1, if_pos (by omega)]
    · rw [Memory.known_set_other hcell, ih (by omega)]
      exact if_congr (by omega) rfl rfl

/-- Both ways of filling give every byte of the buffer, and no other. -/
theorem clearBuffer_known_eq_fillOnes {m : Memory} (b : Buffer) (hm : m.wf) (cell : Nat) :
    (clearBuffer m b).known cell = (fillOnes m b b.size).known cell := by
  rw [clearBuffer_known, fillOnes_known hm le_rfl]
  simp only [Buffer.holds, decide_eq_true_eq]

theorem clearBuffer_filled_of_marked {m : Memory} {b : Buffer} (h : m.filled[b.index] = true) :
    (clearBuffer m b).filled = m.filled := by
  rw [clearBuffer, ← h]
  exact Vector.set_getElem_self ..

/-- Settles O56: the bytes given are the same, so a read is, and for a marked buffer the data is. -/
theorem clearingABufferIsFillingItWithOnes : Obligations.ClearingABufferIsFillingItWithOnes := by
  intro m b hm
  have hdraw : (clearBuffer m b).draw = (fillOnes m b b.size).draw := (fillOnes_draw m b b.size).symm
  have hknown := clearBuffer_known_eq_fillOnes b hm
  refine ⟨hdraw, fun cell => ⟨hknown cell, Memory.get_of_known (hknown cell) hdraw⟩, fun hmarked => ?_⟩
  have hfilled : (clearBuffer m b).filled = (fillOnes m b b.size).filled := by
    rw [clearBuffer_filled_of_marked hmarked, fillOnes_filled]
  exact Memory.ext_of_wf (clearBuffer_wf hm) (fillOnes_wf hm le_rfl) hdraw hfilled hknown

/-! ## What a step gives (R181, R182) -/

/-- The commands that store (R134 to R136, R138, R139). -/
def Command.Stores (c : Command) : Prop :=
  (∃ a v, c = .write8 a v) ∨ (∃ a data, c = .writeBlock a data) ∨ (∃ a1 a2 p, c = .fill a1 a2 p)
    ∨ (∃ image, c = .loadBios image) ∨ ∃ image, c = .loadRom image

/-- A command that changes memory is one that stores: a read and a dump change none (R130). -/
theorem stores_of_mem_ne {m : Memory} {c : Command} (h : (serveCommand m c).1 ≠ m) : c.Stores := by
  cases c with
  | read8 | read16 | read32 | dumpZone => exact absurd rfl h
  | write8 a v => exact .inl ⟨a, v, rfl⟩
  | writeBlock a data => exact .inr (.inl ⟨a, data, rfl⟩)
  | fill a1 a2 p => exact .inr (.inr (.inl ⟨a1, a2, p, rfl⟩))
  | loadBios image => exact .inr (.inr (.inr (.inl ⟨image, rfl⟩)))
  | loadRom image => exact .inr (.inr (.inr (.inr ⟨image, rfl⟩)))

/-- A load gives every byte of its buffer: the fill does, and the image takes none back. -/
theorem known_isSome_of_load {m m' : Memory} {b : Buffer} {image : List Byte} (hload : loadBuffer m b image = .ok m')
    {cell : Nat} (hcell : b.holds cell = true) : (m'.known cell).isSome := by
  rw [eq_storeImage_of_loadBuffer hload]
  obtain ⟨-, hkept⟩ := extends_storeImage (clearBuffer m b) b 0 image
  exact hkept cell (by rw [clearBuffer_known, if_pos hcell]; rfl)

/-- Settles O60: a fresh memory gives no byte, a cycle changes none, and a command only adds to what is given. -/
theorem everyByteIsFreeUntilALoadOrAWriteGivesIt : Obligations.EveryByteIsFreeUntilALoadOrAWriteGivesIt := by
  have free : ∀ n cell, (Memory.fresh n).known cell = none ∧ (Memory.fresh n).get cell = Config.initBuffers n cell :=
    fun n cell => ⟨Memory.fresh_known n cell, Memory.fresh_get n cell⟩
  refine ⟨free 0, fun s rest h => ⟨_, step_of_reset h, free _⟩, fun s t hstep hnoReset => ?_,
    fun s t cell hstep hnoReset hchanged => ?_, fun m image _ hfits => ?_⟩
  · obtain hmem | ⟨rest, hrequest⟩ | ⟨c, rest, -, hmem⟩ := step_mem_cases hstep
    · exact hmem ▸ Memory.extends_refl s.mem
    · exact absurd hrequest (hnoReset rest)
    · exact hmem ▸ extends_serveCommand s.mem c
  · obtain hmem | ⟨rest, hrequest⟩ | ⟨c, rest, hrequest, hmem⟩ := step_mem_cases hstep
    · exact absurd (by rw [hmem]) hchanged
    · exact absurd hrequest (hnoReset rest)
    · exact ⟨c, rest, hrequest, stores_of_mem_ne fun hsame => hchanged (by rw [hmem, hsame])⟩
  · have hload := loadBuffer_of_fits (b := .bios) hfits m
    exact ⟨_, hload, fun cell hcell => known_isSome_of_load hload (decide_eq_true ⟨cell.zero_le, hcell⟩)⟩

end Sys2Proof.Machine
end

section
/-! The filters as pinned bits (R61, R71): a filter matches exactly the words that carry the bits its control constraints
fix, validity aside. From that: the selection (R74) and the valid matches with their marker (R72, R77). -/

namespace Sys2Proof

/-! ## Pinned bits -/

/-- The word has these bits: each pair is a position and a value. -/
def HasBits (w : Word) (l : List (Nat × Bool)) : Prop := ∀ p ∈ l, w.getLsbD p.1 = p.2

/-- The two lists of bits disagree somewhere. -/
def clash (l l' : List (Nat × Bool)) : Bool := l.any fun p => l'.contains (p.1, !p.2)

/-- The bits that a control constraint fixes (R63). -/
def ControlBits.pinned (c : ControlBits) : List (Nat × Bool) :=
  (List.range (c.hi - c.lo + 1)).map fun i => (c.lo + i, c.expected.getLsbD i)

/-- The bits that a filter fixes (R61, R63). -/
def Filter.pinned (f : Filter) : List (Nat × Bool) := f.controls.flatMap (·.pinned)

theorem not_clash_of_hasBits {w : Word} {l l' : List (Nat × Bool)} (h : HasBits w l) (h' : HasBits w l') :
    clash l l' = false := by
  simp only [clash, List.any_eq_false, List.contains_iff_mem]
  intro p hp hp'
  have hboth : p.2 = !p.2 := (h p hp).symm.trans (h' (p.1, !p.2) hp')
  simp at hboth

/-- Every constraint of the filter table is narrower than a word and its value fits. -/
theorem controls_fit : ∀ f ∈ filters, ∀ c ∈ f.controls,
    c.hi - c.lo + 1 < 32 ∧ c.expected.toNat < 2 ^ (c.hi - c.lo + 1) := by decide

theorem candidate_iff_hasBits {f : Filter} (hf : f ∈ filters) (w : Word) :
    f.candidate w = true ↔ HasBits w f.pinned := by
  have hholds : ∀ c ∈ f.controls, c.holds w = true ↔ HasBits w c.pinned := fun c hc => by
    obtain ⟨hwidth, hvalue⟩ := controls_fit f hf c hc
    simp [ControlBits.holds, bits_beq w c.hi c.lo c.expected hwidth hvalue, HasBits, ControlBits.pinned]
  simp only [Filter.candidate, List.all_eq_true, HasBits, Filter.pinned, List.mem_flatMap]
  constructor
  · rintro h p ⟨c, hc, hp⟩
    exact (hholds c hc).mp (h c hc) p hp
  · exact fun h c hc => (hholds c hc).mpr fun p hp => h p ⟨c, hc, hp⟩

theorem candidate_of_validMatch {f : Filter} {w : Word} (h : f.validMatch w = true) : f.candidate w = true := by
  rw [Filter.validMatch, Bool.and_eq_true] at h
  exact h.1

theorem hasBits_of_validMatch {f : Filter} (hf : f ∈ filters) {w : Word} (h : f.validMatch w = true) :
    HasBits w f.pinned :=
  (candidate_iff_hasBits hf w).mp (candidate_of_validMatch h)

/-! ## The first match (R72, R74, R77) -/

/-- In a list with type codes rising, the first match is the one with no match of a lower code. -/
theorem find?_eq_some_iff_lowest {l : List Filter} (hl : l.Pairwise (·.kind.code < ·.kind.code)) {p : Filter → Bool}
    {f : Filter} (hf : f ∈ l) :
    l.find? p = some f ↔ p f = true ∧ ∀ g ∈ l, g.kind.code < f.kind.code → p g = false := by
  induction l with
  | nil => cases hf
  | cons a l ih =>
    obtain ⟨ha, hrest⟩ := List.pairwise_cons.mp hl
    rw [List.find?_cons]
    rcases List.mem_cons.mp hf with rfl | hmem
    · cases hp : p f with
      | true =>
        refine iff_of_true rfl ⟨rfl, fun g hg hlt => ?_⟩
        rcases List.mem_cons.mp hg with rfl | hg
        · exact absurd hlt (Nat.lt_irrefl _)
        · exact absurd (ha g hg) (Nat.lt_asymm hlt)
      | false => simp [List.find?_eq_some_iff_append, hp]
    · cases hp : p a with
      | true =>
        have hne : a ≠ f := fun h => Nat.lt_irrefl _ (h ▸ ha f hmem)
        simp [hne, hp, ha f hmem]
      | false => simp [ih hrest hmem, hp]

theorem codes_rise : filters.Pairwise (·.kind.code < ·.kind.code) := by decide

theorem filter_eq_of_kind : ∀ f ∈ filters, ∀ g ∈ filters, f.kind = g.kind → f = g := by decide

theorem selected_eq_some_iff {f : Filter} (hf : f ∈ filters) (w : Word) :
    selected w = some f ↔
      f.validMatch w = true ∧ ∀ g ∈ filters, g.kind.code < f.kind.code → g.validMatch w = false :=
  find?_eq_some_iff_lowest codes_rise hf

theorem kindOf_eq_kind_iff {f : Filter} (hf : f ∈ filters) (w : Word) :
    kindOf w = f.kind ↔ selected w = some f := by
  have hkinds : ∀ f ∈ filters, f.kind ≠ .unknown := by decide
  refine ⟨fun h => ?_, kindOf_of_selected⟩
  cases hs : selected w with
  | none => exact absurd (h.symm.trans ((kindOf_eq_unknown_iff w).mpr hs)) (hkinds f hf)
  | some g => rw [filter_eq_of_kind g (selected_mem hs) f hf ((kindOf_of_selected hs).symm.trans h)]

/-! ## The valid matches (R72, R77; bit numbering: log entry 13) -/

theorem mem_validMatches_iff {k : Kind} {w : Word} :
    k ∈ validMatches w ↔ ∃ f ∈ filters, f.validMatch w = true ∧ f.kind = k := by
  simp only [validMatches, List.mem_map, List.mem_filter, and_assoc]

theorem kind_mem_validMatches_iff {f : Filter} (hf : f ∈ filters) (w : Word) :
    f.kind ∈ validMatches w ↔ f.validMatch w = true := by
  rw [mem_validMatches_iff]
  refine ⟨fun ⟨g, hg, hmatch, hkind⟩ => ?_, fun h => ⟨f, hf, h, rfl⟩⟩
  rwa [← filter_eq_of_kind g hg f hf hkind]

/-- Setting one bit for each type of a list sets exactly those bits. -/
theorem foldl_setBit_getLsbD (l : List Kind) (v : BitVec 20) {i : Nat} (hi : i < 20) :
    (l.foldl (fun v k => v ||| (1#20 <<< (k.code - 1))) v).getLsbD i
      = (v.getLsbD i || l.any fun k => k.code - 1 == i) := by
  induction l generalizing v with
  | nil => simp
  | cons k l ih =>
    have hbit : (1#20 <<< (k.code - 1)).getLsbD i = (k.code - 1 == i) := by
      rw [Bool.eq_iff_iff, BitVec.getLsbD_shiftLeft]
      simp [BitVec.getLsbD_one, hi]
      omega
    rw [List.foldl_cons, ih, BitVec.getLsbD_or, hbit, List.any_cons, Bool.or_assoc]

/-- Bit i - 1 of `match_vec` tells whether filter i validly matches. -/
theorem matchVec_getLsbD {f : Filter} (hf : f ∈ filters) (w : Word) :
    (matchVec w).getLsbD (f.kind.code - 1) = f.validMatch w := by
  have hcodes : ∀ f ∈ filters, f.kind.code - 1 < 20 := by decide
  have hinj : ∀ f ∈ filters, ∀ g ∈ filters, g.kind.code - 1 = f.kind.code - 1 → g.kind = f.kind := by decide
  rw [matchVec, foldl_setBit_getLsbD _ _ (hcodes f hf), Bool.eq_iff_iff, ← kind_mem_validMatches_iff hf]
  simp only [BitVec.ofNat_eq_ofNat, BitVec.getLsbD_zero, Bool.false_or, List.any_eq_true, beq_iff_eq]
  constructor
  · rintro ⟨k, hk, hcode⟩
    obtain ⟨g, hg, -, rfl⟩ := mem_validMatches_iff.mp hk
    rwa [← hinj f hf g hg hcode]
  · exact fun h => ⟨_, h, rfl⟩

theorem matchVec_eq_zero_iff (w : Word) : matchVec w = 0 ↔ validMatches w = [] := by
  refine ⟨fun h => ?_, fun h => by rw [matchVec, h]; rfl⟩
  rw [List.eq_nil_iff_forall_not_mem]
  intro k hk
  obtain ⟨f, hf, hmatch, -⟩ := mem_validMatches_iff.mp hk
  have hbit := matchVec_getLsbD hf w
  rw [h, hmatch] at hbit
  simp at hbit

/-- The valid matches come in the order of their codes. -/
theorem validMatches_rise (w : Word) : (validMatches w).Pairwise (·.code < ·.code) :=
  List.pairwise_map.mpr (codes_rise.sublist List.filter_sublist)

theorem validMatches_nodup (w : Word) : (validMatches w).Nodup :=
  (validMatches_rise w).imp fun h => ne_of_apply_ne Kind.code (Nat.ne_of_lt h)

theorem multiMatch_iff (w : Word) : multiMatch w = true ↔
    ∃ f ∈ filters, ∃ g ∈ filters, f.kind ≠ g.kind ∧ f.validMatch w = true ∧ g.validMatch w = true := by
  rw [multiMatch, decide_eq_true_eq, ← List.toFinset_card_of_nodup (validMatches_nodup w), Finset.one_lt_card]
  simp only [List.mem_toFinset, mem_validMatches_iff]
  constructor
  · rintro ⟨_, ⟨f, hf, hfm, rfl⟩, _, ⟨g, hg, hgm, rfl⟩, hne⟩
    exact ⟨f, hf, g, hg, hne, hfm, hgm⟩
  · rintro ⟨f, hf, g, hg, hne, hfm, hgm⟩
    exact ⟨_, ⟨f, hf, hfm, rfl⟩, _, ⟨g, hg, hgm, rfl⟩, hne⟩

/-- Settles O9: the bits of `match_vec` are the valid matches, the type is the first of them, and two are two filters. -/
theorem typeIsTheFirstValidMatch : Obligations.TypeIsTheFirstValidMatch :=
  fun w => ⟨fun _ hf => matchVec_getLsbD hf w,
    by rw [kindOf_eq_unknown_iff, matchVec_eq_zero_iff, validMatches_eq_nil_iff],
    fun _ hf => (kindOf_eq_kind_iff hf w).trans (selected_eq_some_iff hf w), multiMatch_iff w⟩

end Sys2Proof
end

section
/-! The words with two valid matches (R69): the pairs of filters that no bit and no validity rule separates. -/

namespace Sys2Proof

/-- The pairs of types whose filters match a common word, in priority order (R69). -/
def overlaps : List (Kind × Kind) :=
  [(.multiply, .halfwordReg), (.multiply, .halfwordImm), (.multiplyLong, .halfwordReg), (.multiplyLong, .halfwordImm),
    (.swap, .halfwordReg), (.swap, .halfwordImm)]

/-- The pairs that the validity refinement separates: the compare codes with `S` = 0 are other formats' (R73). -/
def separated : List (Kind × Kind) :=
  [(.aluRegShiftImm, .psrReg), (.aluRegShiftReg, .branchExchange), (.aluImm, .psrImm)]

/-- Any other two filters fix a bit differently. -/
theorem filters_clash : filters.Pairwise fun f g =>
    clash f.pinned g.pinned = true ∨ (f.kind, g.kind) ∈ separated ∨ (f.kind, g.kind) ∈ overlaps := by decide

/-- A compare word with `S` = 0 is no valid ALU word (R73). -/
theorem aluValid_eq_false {w : Word} (h24 : w[24] = true) (h23 : w[23] = false) (h20 : w[20] = false) :
    aluValid w = false := by
  rw [← Bool.not_eq_true, aluValid_iff]
  simp [h24, h23, h20]

theorem not_both_of_separated {f g : Filter} (hf : f ∈ filters) (hg : g ∈ filters)
    (h : (f.kind, g.kind) ∈ separated) {w : Word} (hfm : f.validMatch w = true) (hgm : g.validMatch w = true) : False := by
  have hvalid : aluValid w = true := by
    have hneeds : ∀ f ∈ filters, ∀ g ∈ filters, (f.kind, g.kind) ∈ separated → f.kind.needsAluValid = true := by decide
    simpa [Filter.validMatch, hneeds f hf g hg h] using And.right (Bool.and_eq_true_iff.mp hfm)
  have hpinned : ∀ f ∈ filters, ∀ g ∈ filters, (f.kind, g.kind) ∈ separated →
    (24, true) ∈ g.pinned ∧ (23, false) ∈ g.pinned ∧ (20, false) ∈ g.pinned := by decide
  obtain ⟨h24, h23, h20⟩ := hpinned f hf g hg h
  have hbits := hasBits_of_validMatch hg hgm
  rw [aluValid_eq_false (hbits _ h24) (hbits _ h23) (hbits _ h20)] at hvalid
  cases hvalid

theorem validMatches_overlap (w : Word) : (validMatches w).Pairwise fun a b => (a, b) ∈ overlaps := by
  refine List.pairwise_map.mpr (List.pairwise_filter.mpr (filters_clash.imp_of_mem ?_))
  intro f g hf hg h hfm hgm
  rcases h with h | h | h
  · rw [not_clash_of_hasBits (hasBits_of_validMatch hf hfm) (hasBits_of_validMatch hg hgm)] at h
    cases h
  · exact (not_both_of_separated hf hg h hfm hgm).elim
  · exact h

/-- Overlaps do not chain, so a word has no match, one, or an overlapping pair of them. -/
theorem validMatches_cases (w : Word) :
    (validMatches w).length ≤ 1 ∨ ∃ a b, (a, b) ∈ overlaps ∧ validMatches w = [a, b] := by
  have hchain : ∀ p ∈ overlaps, ∀ q ∈ overlaps, p.2 ≠ q.1 := by decide
  have hpairs := validMatches_overlap w
  match hl : validMatches w with
  | [] | [a] => exact .inl (by simp)
  | [a, b] =>
    rw [hl] at hpairs
    exact .inr ⟨a, b, by simpa using hpairs, rfl⟩
  | a :: b :: c :: l =>
    rw [hl] at hpairs
    obtain ⟨ha, hrest⟩ := List.pairwise_cons.mp hpairs
    obtain ⟨hb, -⟩ := List.pairwise_cons.mp hrest
    exact absurd rfl (hchain _ (ha b (by simp)) _ (hb c (by simp)))

theorem multiMatch_iff_overlap (w : Word) : multiMatch w = true ↔ ∃ p ∈ overlaps, validMatches w = [p.1, p.2] := by
  rw [multiMatch, decide_eq_true_eq]
  obtain hshort | ⟨a, b, hab, hl⟩ := validMatches_cases w
  · exact iff_of_false (by omega) fun ⟨p, _, hl⟩ => by simp [hl] at hshort
  · exact iff_of_true (by simp [hl]) ⟨(a, b), hab, hl⟩

/-- Two overlapping filters that match are the only ones. -/
theorem validMatches_eq_pair_iff (f g : Filter) (hf : f ∈ filters) (hg : g ∈ filters)
    (h : (f.kind, g.kind) ∈ overlaps) (w : Word) :
    validMatches w = [f.kind, g.kind] ↔ f.validMatch w = true ∧ g.validMatch w = true := by
  have hdisjoint : ∀ p ∈ overlaps, ∀ q ∈ overlaps, p.1 ≠ q.2 := by decide
  have hmem := kind_mem_validMatches_iff hf w
  have hmem' := kind_mem_validMatches_iff hg w
  refine ⟨fun hl => ⟨hmem.mp (by simp [hl]), hmem'.mp (by simp [hl])⟩, fun ⟨hfm, hgm⟩ => ?_⟩
  obtain ⟨p, hp, hl⟩ := (multiMatch_iff_overlap w).mp ((multiMatch_iff w).mpr
    ⟨f, hf, g, hg, hdisjoint _ h _ h, hfm, hgm⟩)
  have hfirst : f.kind = p.1 := by simpa [hl, hdisjoint _ h _ hp] using hmem.mpr hfm
  have hsecond : g.kind = p.2 := by simpa [hl, (hdisjoint _ hp _ h).symm] using hmem'.mpr hgm
  rw [hl, hfirst, hsecond]

/-- Settles O7: the valid matches are at most an overlapping pair, and the bits of its two filters say when. -/
theorem multiMatchWordsAreExactlyTheSixSets : Obligations.MultiMatchWordsAreExactlyTheSixSets := by
  intro w
  have pair (f g : Filter) (hf : f ∈ filters) (hg : g ∈ filters) (h : (f.kind, g.kind) ∈ overlaps) :=
    validMatches_eq_pair_iff f g hf hg h w
  refine ⟨?_, (multiMatch_iff_overlap w).trans (by simp [overlaps]),
    (pair filterMultiply filterHalfwordReg (by decide) (by decide) (by decide)).trans ?_,
    (pair filterMultiply filterHalfwordImm (by decide) (by decide) (by decide)).trans ?_,
    (pair filterMultiplyLong filterHalfwordReg (by decide) (by decide) (by decide)).trans ?_,
    (pair filterMultiplyLong filterHalfwordImm (by decide) (by decide) (by decide)).trans ?_,
    (pair filterSwap filterHalfwordReg (by decide) (by decide) (by decide)).trans ?_,
    (pair filterSwap filterHalfwordImm (by decide) (by decide) (by decide)).trans ?_⟩
  · obtain hshort | ⟨a, b, -, hl⟩ := validMatches_cases w
    · omega
    · simp [hl]
  all_goals
    simp [filterMultiply_validMatch, filterMultiplyLong_validMatch, filterSwap_validMatch, filterHalfwordReg_validMatch,
      filterHalfwordImm_validMatch, extractLsb'_eq_iff, List.range_succ]
    tauto

end Sys2Proof
end

section
/-! The filters against the decision tree (R66): what each filter requires, said in the slices that the tree tests, and
the tree as the first of these tests that holds. -/

namespace Sys2Proof.Machine

/-- `aluok` of the tree is the validity refinement (R66, R73). -/
theorem treeAluOk_eq_aluValid (w : Word) : treeAluOk w = aluValid w := by
  rw [Bool.eq_iff_iff, aluValid_iff]
  cases h24 : w[24] <;> cases h23 : w[23] <;> simp [treeAluOk, extractLsb'_eq_iff, List.range_succ, h24, h23]

/-- What a filter of this type requires, in the slices that the decision tree tests (R61, R66). -/
def treeTest (w : Word) : Kind → Bool
  | .unknown => false
  | .aluRegShiftImm => w.extractLsb' 25 3 = 0 ∧ w.extractLsb' 4 1 = 0 ∧ treeAluOk w
  | .aluRegShiftReg => w.extractLsb' 25 3 = 0 ∧ w.extractLsb' 4 1 = 1 ∧ w.extractLsb' 7 1 = 0 ∧ treeAluOk w
  | .aluImm => w.extractLsb' 25 3 = 1 ∧ treeAluOk w
  | .psrImm => w.extractLsb' 25 3 = 1 ∧ w.extractLsb' 23 2 = 2 ∧ w.extractLsb' 20 2 = 2
  | .psrReg => w.extractLsb' 25 3 = 0 ∧ w.extractLsb' 4 1 = 0
      ∧ w.extractLsb' 23 5 = 2 ∧ w.extractLsb' 20 1 = 0 ∧ w.extractLsb' 4 8 = 0
  | .branchExchange => w.extractLsb' 25 3 = 0 ∧ w.extractLsb' 4 1 = 1 ∧ w.extractLsb' 7 1 = 0
      ∧ w.extractLsb' 6 22 = 0b0001001011111111111100
  | .multiply => w.extractLsb' 25 3 = 0 ∧ w.extractLsb' 4 1 = 1 ∧ w.extractLsb' 7 1 = 1
      ∧ (w.extractLsb' 4 4 = 9 ∧ w.extractLsb' 24 1 = 0) ∧ w.extractLsb' 23 1 = 0
  | .multiplyLong => w.extractLsb' 25 3 = 0 ∧ w.extractLsb' 4 1 = 1 ∧ w.extractLsb' 7 1 = 1
      ∧ (w.extractLsb' 4 4 = 9 ∧ w.extractLsb' 24 1 = 0) ∧ w.extractLsb' 23 1 = 1
  | .swap => w.extractLsb' 25 3 = 0 ∧ w.extractLsb' 4 1 = 1 ∧ w.extractLsb' 7 1 = 1
      ∧ w.extractLsb' 23 5 = 2 ∧ w.extractLsb' 20 2 = 0 ∧ w.extractLsb' 4 8 = 9
  | .halfwordReg => w.extractLsb' 25 3 = 0 ∧ w.extractLsb' 4 1 = 1 ∧ w.extractLsb' 7 1 = 1
      ∧ w.extractLsb' 22 1 = 0 ∧ w.extractLsb' 8 4 = 0
  | .halfwordImm => w.extractLsb' 25 3 = 0 ∧ w.extractLsb' 4 1 = 1 ∧ w.extractLsb' 7 1 = 1 ∧ w.extractLsb' 22 1 = 1
  | .transferReg => w.extractLsb' 25 3 = 3 ∧ w.extractLsb' 4 1 = 0
  | .transferImm => w.extractLsb' 25 3 = 2
  | .undefined => w.extractLsb' 25 3 = 3 ∧ w.extractLsb' 4 1 = 1
  | .blockTransfer => w.extractLsb' 25 3 = 4
  | .branch => w.extractLsb' 25 3 = 5
  | .coprocDataTransfer => w.extractLsb' 25 3 = 6
  | .coprocDataOp => w.extractLsb' 25 3 = 7 ∧ w.extractLsb' 24 1 = 0 ∧ w.extractLsb' 4 1 = 0
  | .coprocRegTransfer => w.extractLsb' 25 3 = 7 ∧ w.extractLsb' 24 1 = 0 ∧ w.extractLsb' 4 1 = 1
  | .softwareInterrupt => w.extractLsb' 25 3 = 7 ∧ w.extractLsb' 24 1 = 1

/-- Filter by filter: the bits it fixes make up the slices of its test. -/
theorem validMatch_eq_treeTest {f : Filter} (hf : f ∈ filters) (w : Word) : f.validMatch w = treeTest w f.kind := by
  rw [Bool.eq_iff_iff]
  simp only [filters, List.cons_append, List.nil_append, List.mem_cons, List.not_mem_nil, or_false] at hf
  rcases hf with rfl | rfl | rfl | rfl | rfl | rfl | rfl | rfl | rfl | rfl | rfl | rfl | rfl | rfl | rfl | rfl | rfl
    | rfl | rfl | rfl
  all_goals
    simp only [filterAluRegShiftImm_validMatch, filterAluRegShiftReg_validMatch, filterAluImm_validMatch,
      filterPsrImm_validMatch, filterPsrReg_validMatch, filterBranchExchange_validMatch, filterMultiply_validMatch,
      filterMultiplyLong_validMatch, filterSwap_validMatch, filterHalfwordReg_validMatch,
      filterHalfwordImm_validMatch, filterTransferReg_validMatch, filterTransferImm_validMatch,
      filterUndefined_validMatch, filterBlockTransfer_validMatch, filterBranch_validMatch,
      filterCoprocDataTransfer_validMatch, filterCoprocDataOp_validMatch, filterCoprocRegTransfer_validMatch,
      filterSoftwareInterrupt_validMatch]
    simp [filterAluRegShiftImm, filterAluRegShiftReg, filterAluImm, filterPsrImm, filterPsrReg,
      filterBranchExchange, filterMultiply, filterMultiplyLong, filterSwap, filterHalfwordReg, filterHalfwordImm,
      filterTransferReg, filterTransferImm, filterUndefined, filterBlockTransfer, filterBranch,
      filterCoprocDataTransfer, filterCoprocDataOp, filterCoprocRegTransfer, filterSoftwareInterrupt, treeTest,
      extractLsb'_eq_iff, List.range_succ, treeAluOk_eq_aluValid]
  all_goals tauto

theorem code_eq_foldr (w : Word) : (kindOf w).code =
    (filters.map (·.kind)).foldr (fun k n => if treeTest w k then k.code else n) 0 := by
  rw [kindOf_getD]
  have h := fun f hf => validMatch_eq_treeTest (f := f) hf w
  revert h
  generalize filters = l
  intro h
  induction l with
  | nil => rfl
  | cons f l ih =>
    rw [kindOf_cons, apply_ite Kind.code, ih (fun g hg => h g (List.mem_cons_of_mem _ hg)), h f (List.mem_cons_self)]
    rfl

/-- The priority order of R71. -/
theorem filterKinds : filters.map (·.kind) = [.aluRegShiftImm, .aluRegShiftReg, .aluImm, .psrImm, .psrReg,
  .branchExchange,
  .multiply, .multiplyLong, .swap, .halfwordReg, .halfwordImm, .transferReg, .transferImm, .undefined, .blockTransfer,
  .branch, .coprocDataTransfer, .coprocDataOp, .coprocRegTransfer, .softwareInterrupt] := rfl

theorem compareClass_of_not_treeAluOk {w : Word} (h : treeAluOk w = false) : w.extractLsb' 23 2 = 2 := by
  rw [treeAluOk, Bool.or_eq_false_iff] at h
  simpa using h.1

/-- The first matching filter is the branch the tree takes: by the top slice, and within the data-processing and the
coprocessor space by the bits the tree asks for next (R66). -/
theorem code_eq_decisionTree (w : Word) : (kindOf w).code = decisionTree w := by
  have bit : ∀ b : BitVec 1, b = 1#1 ↔ ¬ b = 0#1 := by decide
  have top : ∀ b : BitVec 3, b = 0 ∨ b = 1 ∨ b = 2 ∨ b = 3 ∨ b = 4 ∨ b = 5 ∨ b = 6 ∨ b = 7 := by decide
  rw [code_eq_foldr, filterKinds]
  simp only [treeTest, List.foldr, decide_eq_true_eq, Kind.code]
  obtain h | h | h | h | h | h | h | h := top (w.extractLsb' 25 3)
  · by_cases h4 : w.extractLsb' 4 1 = 0#1
    · simp [decisionTree, h, h4]
    · by_cases h7 : w.extractLsb' 7 1 = 0#1
      · simp [decisionTree, h, bit, h4, h7]
      · by_cases hmul : w.extractLsb' 4 4 = 9#4 ∧ w.extractLsb' 24 1 = 0#1
        · by_cases h23 : w.extractLsb' 23 1 = 0#1 <;> simp [decisionTree, h, bit, h4, h7, hmul, h23]
        · simp [decisionTree, h, bit, h4, h7, hmul]
  · cases hok : treeAluOk w with
    | true => simp [decisionTree, h, hok]
    | false => simp [decisionTree, h, hok, compareClass_of_not_treeAluOk hok]
  · simp [decisionTree, h]
  · by_cases h4 : w.extractLsb' 4 1 = 0#1 <;> simp [decisionTree, h, bit, h4]
  · simp [decisionTree, h]
  · simp [decisionTree, h]
  · simp [decisionTree, h]
  · by_cases h24 : w.extractLsb' 24 1 = 0#1
    · by_cases h4 : w.extractLsb' 4 1 = 0#1 <;> simp [decisionTree, h, bit, h24, h4]
    · simp [decisionTree, h, bit, h24]
/-- Settles O5: a filter's match is a test on the tree's slices, and the first test that holds is the tree's branch. -/
theorem filtersInPriorityOrderAreTheDecisionTree : Obligations.FiltersInPriorityOrderAreTheDecisionTree :=
  code_eq_decisionTree

end Sys2Proof.Machine
end

section
/-! The UNKNOWN words (R67): the leaves of the decision tree that give no type, set by set. -/

namespace Sys2Proof.Machine

/-- A slice has a value exactly if its upper and its lower part have. -/
theorem slice_eq_iff (w : Word) (lo n m : Nat) (c : BitVec (n + m)) : w.extractLsb' lo (n + m) = c ↔
    w.extractLsb' (lo + n) m = c.extractLsb' n m ∧ w.extractLsb' lo n = c.extractLsb' 0 n := by
  constructor
  · rintro rfl
    exact ⟨by ext i hi; simp [hi, Nat.add_assoc], by ext i hi; simp [Nat.lt_add_right m hi]⟩
  · rintro ⟨hupper, hlower⟩
    apply BitVec.eq_of_getLsbD_eq
    intro i hi
    by_cases hlow : i < n
    · simpa [hlow, hi, -BitVec.getLsbD_eq_getElem] using congrArg (·.getLsbD i) hlower
    · have hbit := congrArg (·.getLsbD (i - n)) hupper
      simpa [hi, show i - n < m by omega, show lo + n + (i - n) = lo + i by omega, show n + (i - n) = i by omega,
        -BitVec.getLsbD_eq_getElem] using hbit

/-- The mask test of U-c is the pattern of BRANCH_EXCHANGE, `L` and `Rn` aside (R67, R85). -/
theorem branchExchange_mask_iff (w : Word) : w &&& 0x0FFFFFD0 = 0x012FFF10 ↔
    w.extractLsb' 6 22 = 0b0001001011111111111100 ∧ w.extractLsb' 4 1 = 1 := by
  rw [← BitVec.extractLsb'_eq_self (x := w &&& 0x0FFFFFD0)]
  simp only [extractLsb'_eq_iff]
  simp [List.range_succ]
  tauto

theorem slice_of_branchExchange {w : Word} (h : w.extractLsb' 6 22 = 0b0001001011111111111100) :
    w.extractLsb' 23 2 = 2 ∧ w.extractLsb' 20 1 = 0 := by
  obtain ⟨h, -⟩ := (slice_eq_iff w 6 14 8 _).mp h
  obtain ⟨hupper, hs⟩ := (slice_eq_iff w 20 1 7 _).mp h
  obtain ⟨-, hopcode⟩ := (slice_eq_iff w 21 4 3 _).mp hupper
  exact ⟨((slice_eq_iff w 21 2 2 _).mp hopcode).1, hs⟩

theorem bit_eq_one_iff (b : BitVec 1) : b = 1#1 ↔ ¬ b = 0#1 := by revert b; decide

theorem treeAluOk_iff (w : Word) : treeAluOk w = true ↔ ¬ (w.extractLsb' 23 2 = 2#2 ∧ (w.extractLsb' 20 1 = 0#1 ∨
    ¬ w.extractLsb' 12 4 = 0#4 ∧ ¬ w.extractLsb' 12 4 = 15#4)) := by
  by_cases h : w.extractLsb' 20 1 = 0#1 <;> simp [treeAluOk, bit_eq_one_iff, h]; tauto

/-- What leaves the ALU_IMM space without a type is U-a (R67). -/
theorem noType_imm_iff (w : Word) :
    w.extractLsb' 25 3 = 1#3 ∧ ¬ treeAluOk w = true ∧ ¬ w.extractLsb' 20 2 = 2#2 ↔
      w.extractLsb' 23 5 = 6#5 ∧ (w.extractLsb' 20 1 = 1#1 ∧ w.extractLsb' 12 4 ≠ 0#4 ∧ w.extractLsb' 12 4 ≠ 15#4 ∨
        w.extractLsb' 20 2 = 0#2) := by
  have himm : w.extractLsb' 23 5 = 6#5 ↔ w.extractLsb' 25 3 = 1#3 ∧ w.extractLsb' 23 2 = 2#2 := slice_eq_iff w 23 2 3 _
  have hpsr0 : w.extractLsb' 20 2 = 0#2 ↔ w.extractLsb' 21 1 = 0#1 ∧ w.extractLsb' 20 1 = 0#1 := slice_eq_iff w 20 1 1 _
  have hpsr2 : w.extractLsb' 20 2 = 2#2 ↔ w.extractLsb' 21 1 = 1#1 ∧ w.extractLsb' 20 1 = 0#1 := slice_eq_iff w 20 1 1 _
  rw [treeAluOk_iff, himm, hpsr0, hpsr2]
  by_cases hs : w.extractLsb' 20 1 = 0#1 <;> simp [hs, bit_eq_one_iff, and_assoc]

/-- What leaves the space of the immediate shifts without a type is U-b (R67). -/
theorem noType_shiftImm_iff (w : Word) :
    w.extractLsb' 25 3 = 0#3 ∧ w.extractLsb' 4 1 = 0#1 ∧ ¬ treeAluOk w = true
        ∧ ¬ (w.extractLsb' 23 5 = 2#5 ∧ w.extractLsb' 20 1 = 0#1 ∧ w.extractLsb' 4 8 = 0#8) ↔
      w.extractLsb' 23 5 = 2#5 ∧ w.extractLsb' 4 1 = 0#1
        ∧ (w.extractLsb' 20 1 = 1#1 ∧ w.extractLsb' 12 4 ≠ 0#4 ∧ w.extractLsb' 12 4 ≠ 15#4 ∨
          w.extractLsb' 20 1 = 0#1 ∧ w.extractLsb' 5 7 ≠ 0#7) := by
  have hreg : w.extractLsb' 23 5 = 2#5 ↔ w.extractLsb' 25 3 = 0#3 ∧ w.extractLsb' 23 2 = 2#2 := slice_eq_iff w 23 2 3 _
  have hlow : w.extractLsb' 4 8 = 0#8 ↔ w.extractLsb' 5 7 = 0#7 ∧ w.extractLsb' 4 1 = 0#1 := slice_eq_iff w 4 1 7 _
  rw [treeAluOk_iff, hreg, hlow]
  by_cases hs : w.extractLsb' 20 1 = 0#1 <;> simp [hs, bit_eq_one_iff] <;> tauto

/-- What leaves the space of the register shifts without a type is U-c (R67). -/
theorem noType_shiftReg_iff (w : Word) :
    w.extractLsb' 25 3 = 0#3 ∧ ¬ w.extractLsb' 4 1 = 0#1 ∧ w.extractLsb' 7 1 = 0#1 ∧ ¬ treeAluOk w = true
        ∧ ¬ w.extractLsb' 6 22 = 0b0001001011111111111100#22 ↔
      w.extractLsb' 23 5 = 2#5 ∧ w.extractLsb' 7 1 = 0#1 ∧ w.extractLsb' 4 1 = 1#1
        ∧ (w.extractLsb' 20 1 = 1#1 ∧ w.extractLsb' 12 4 ≠ 0#4 ∧ w.extractLsb' 12 4 ≠ 15#4 ∨
          w.extractLsb' 20 1 = 0#1 ∧ w &&& 0x0FFFFFD0 ≠ 0x012FFF10) := by
  have hreg : w.extractLsb' 23 5 = 2#5 ↔ w.extractLsb' 25 3 = 0#3 ∧ w.extractLsb' 23 2 = 2#2 := slice_eq_iff w 23 2 3 _
  have hbx := slice_of_branchExchange (w := w)
  rw [treeAluOk_iff, hreg, ne_eq (w &&& _), branchExchange_mask_iff, bit_eq_one_iff (w.extractLsb' 4 1)]
  by_cases hs : w.extractLsb' 20 1 = 0#1
  · simp [hs, bit_eq_one_iff]
    tauto
  · have hno : ¬ w.extractLsb' 6 22 = 0b0001001011111111111100#22 := fun h => hs (hbx h).2
    simp [hs, hno, bit_eq_one_iff]
    tauto

/-- What leaves the space of the multiplies, SWAP and the halfword transfers without a type is U-d (R67). -/
theorem noType_extension_iff (w : Word) :
    w.extractLsb' 25 3 = 0#3 ∧ ¬ w.extractLsb' 4 1 = 0#1 ∧ ¬ w.extractLsb' 7 1 = 0#1
        ∧ ¬ (w.extractLsb' 4 4 = 9#4 ∧ w.extractLsb' 24 1 = 0#1)
        ∧ ¬ (w.extractLsb' 23 5 = 2#5 ∧ w.extractLsb' 20 2 = 0#2 ∧ w.extractLsb' 4 8 = 9#8)
        ∧ ¬ (w.extractLsb' 22 1 = 0#1 ∧ w.extractLsb' 8 4 = 0#4) ∧ ¬ w.extractLsb' 22 1 = 1#1 ↔
      w.extractLsb' 25 3 = 0#3 ∧ w.extractLsb' 22 1 = 0#1 ∧ w.extractLsb' 7 1 = 1#1 ∧ w.extractLsb' 4 1 = 1#1
        ∧ w.extractLsb' 8 4 ≠ 0#4 ∧ ¬ (w.extractLsb' 24 1 = 0#1 ∧ w.extractLsb' 5 2 = 0#2) := by
  have hswap : w.extractLsb' 4 8 = 9#8 ↔ w.extractLsb' 8 4 = 0#4 ∧ w.extractLsb' 4 4 = 9#4 := slice_eq_iff w 4 4 4 _
  have hmul : w.extractLsb' 4 4 = 9#4 ↔ w.extractLsb' 5 3 = 4#3 ∧ w.extractLsb' 4 1 = 1#1 := slice_eq_iff w 4 1 3 _
  have hupper : w.extractLsb' 5 3 = 4#3 ↔ w.extractLsb' 7 1 = 1#1 ∧ w.extractLsb' 5 2 = 0#2 := slice_eq_iff w 5 2 1 _
  rw [hswap, hmul, hupper]
  clear hswap hmul hupper
  by_cases h4 : w.extractLsb' 4 1 = 0#1
  · simp [h4]
  · by_cases h7 : w.extractLsb' 7 1 = 0#1
    · simp [h7]
    · simp [h4, h7, bit_eq_one_iff]
      tauto

/-- A word has no type exactly in four leaves of the tree. -/
theorem decisionTree_eq_zero_iff (w : Word) : decisionTree w = 0 ↔
    (w.extractLsb' 25 3 = 1#3 ∧ ¬ treeAluOk w = true ∧ ¬ w.extractLsb' 20 2 = 2#2)
    ∨ (w.extractLsb' 25 3 = 0#3 ∧ w.extractLsb' 4 1 = 0#1 ∧ ¬ treeAluOk w = true
        ∧ ¬ (w.extractLsb' 23 5 = 2#5 ∧ w.extractLsb' 20 1 = 0#1 ∧ w.extractLsb' 4 8 = 0#8))
    ∨ (w.extractLsb' 25 3 = 0#3 ∧ ¬ w.extractLsb' 4 1 = 0#1 ∧ w.extractLsb' 7 1 = 0#1 ∧ ¬ treeAluOk w = true
        ∧ ¬ w.extractLsb' 6 22 = 0b0001001011111111111100#22)
    ∨ (w.extractLsb' 25 3 = 0#3 ∧ ¬ w.extractLsb' 4 1 = 0#1 ∧ ¬ w.extractLsb' 7 1 = 0#1
        ∧ ¬ (w.extractLsb' 4 4 = 9#4 ∧ w.extractLsb' 24 1 = 0#1)
        ∧ ¬ (w.extractLsb' 23 5 = 2#5 ∧ w.extractLsb' 20 2 = 0#2 ∧ w.extractLsb' 4 8 = 9#8)
        ∧ ¬ (w.extractLsb' 22 1 = 0#1 ∧ w.extractLsb' 8 4 = 0#4) ∧ ¬ w.extractLsb' 22 1 = 1#1) := by
  have top : ∀ b : BitVec 3, b = 0 ∨ b = 1 ∨ b = 2 ∨ b = 3 ∨ b = 4 ∨ b = 5 ∨ b = 6 ∨ b = 7 := by decide
  have hleaf (p : Prop) [Decidable p] (n m : Nat) : (if p then n + 1 else m) = 0 ↔ ¬p ∧ m = 0 := by split <;> simp [*]
  obtain h | h | h | h | h | h | h | h := top (w.extractLsb' 25 3)
  · by_cases h4 : w.extractLsb' 4 1 = 0#1
    · simp [decisionTree, h, h4, hleaf]
    · by_cases h7 : w.extractLsb' 7 1 = 0#1
      · simp [decisionTree, h, h4, h7, hleaf]
      · by_cases hmul : w.extractLsb' 4 4 = 9#4 ∧ w.extractLsb' 24 1 = 0#1
        · by_cases h23 : w.extractLsb' 23 1 = 0#1 <;> simp [decisionTree, h, h4, h7, hmul, h23]
        · simp [decisionTree, h, h4, h7, hmul, hleaf]
  · simp [decisionTree, h, hleaf]
  · simp [decisionTree, h]
  · by_cases h4 : w.extractLsb' 4 1 = 0#1 <;> simp [decisionTree, h, h4]
  · simp [decisionTree, h]
  · simp [decisionTree, h]
  · simp [decisionTree, h]
  · by_cases h24 : w.extractLsb' 24 1 = 0#1
    · by_cases h4 : w.extractLsb' 4 1 = 0#1 <;> simp [decisionTree, h, h24, h4]
    · simp [decisionTree, h, bit_eq_one_iff, h24]

theorem kindOf_eq_unknown_iff_inUnknownSets (w : Word) : kindOf w = .unknown ↔ inUnknownSets w := by
  have hcode : ∀ k : Kind, k = .unknown ↔ k.code = 0 := fun k => by cases k <;> decide
  rw [hcode, code_eq_decisionTree, decisionTree_eq_zero_iff, noType_imm_iff, noType_shiftImm_iff, noType_shiftReg_iff,
    noType_extension_iff]
  rfl

theorem fieldsOf_of_kindOf_unknown {w : Word} (h : kindOf w = .unknown) : fieldsOf w = [] := by
  rw [fieldsOf, (kindOf_eq_unknown_iff w).mp h]

/-- Settles O6: the four leaves of the decision tree without a type are U-a to U-d. -/
theorem unknownWordsAreExactlyTheFourSets : Obligations.UnknownWordsAreExactlyTheFourSets := fun w =>
  ⟨kindOf_eq_unknown_iff_inUnknownSets w, fun h => ⟨classify_of_unknown h, fieldsOf_of_kindOf_unknown h⟩⟩

end Sys2Proof.Machine
end

section
/-! Encoding and decoding (R61, R62): the word of a well-formed instruction takes the branch of its type in the decision
tree and its slices are its fields; a word of any row but UNDEFINED is rebuilt from its row and its fields. -/

namespace Sys2Proof.Machine

/-! ## Slices of an encoded word -/

/-- The slices of a word that is a concatenation are slices of the concatenation, at the width it is written with. -/
theorem slice_of_append_eq {n m : Nat} {x : BitVec n} {y : BitVec m} {w : Word} (h : (x ++ y).toNat = w.toNat)
    (lo len : Nat) : w.extractLsb' lo len = (x ++ y).extractLsb' lo len := by
  simp only [BitVec.extractLsb', h]

/-- What an instruction's fields have to meet so that its word is classified as it (R73, R90, R91, R93, R94). -/
def Encodable : Classification → Prop
  | .aluRegShiftImm f => CompareFieldsValid f.op f.s f.rd
  | .aluRegShiftReg f => CompareFieldsValid f.op f.s f.rd
  | .aluImm f => CompareFieldsValid f.op f.s f.rd
  | .multiply f => f.op.getLsbD 2 = false
  | .multiplyLong f => f.op.getLsbD 2 = true
  | .halfwordReg f => f.isMultiply = false ∧ f.isSwap = false
  | .halfwordImm f => f.isMultiply = false ∧ f.isSwap = false
  | _ => True

/-- The code is the place in the priority order (R64). -/
theorem kind_at_code (k : Kind) : (Kind.unknown :: filters.map (·.kind))[k.code]? = some k := by
  cases k <;> rfl

theorem code_injective {k k' : Kind} (h : k.code = k'.code) : k = k' :=
  Option.some.inj ((kind_at_code k).symm.trans (h ▸ kind_at_code k'))

/-- The slices of an encoded word are the fields it was made of (R62). -/
theorem extractAs_of_word? {c : Classification} {w : Word} (h : c.word? = some w) : extractAs c.kind w = c := by
  cases c with
  | unknown => rfl
  | _ f =>
    have hs := slice_of_append_eq (congrArg BitVec.toNat (Option.some.inj h))
    simp (disch := decide) only [Classification.kind, extractAs, hs, BitVec.extractLsb'_append_eq_of_le,
      BitVec.extractLsb'_append_eq_of_add_le, BitVec.extractLsb'_eq_self, Nat.reduceSub]

/-- In the space of the multiplies, SWAP and the halfword transfers the decision tree asks for the bits that
`isMultiply` and `isSwap` name. -/
theorem multiplySpace_iff {w : Word} (h4 : w.extractLsb' 4 1 = 1#1) (h7 : w.extractLsb' 7 1 = 1#1) :
    w.extractLsb' 4 4 = 9#4 ↔ w.extractLsb' 5 2 = 0#2 := by
  have hmul : w.extractLsb' 4 4 = 9#4 ↔ w.extractLsb' 5 3 = 4#3 ∧ w.extractLsb' 4 1 = 1#1 := slice_eq_iff w 4 1 3 _
  have hupper : w.extractLsb' 5 3 = 4#3 ↔ w.extractLsb' 7 1 = 1#1 ∧ w.extractLsb' 5 2 = 0#2 := slice_eq_iff w 5 2 1 _
  simp [hmul, hupper, h4, h7]

theorem swap_iff {w : Word} (h25 : w.extractLsb' 25 3 = 0#3) (h4 : w.extractLsb' 4 1 = 1#1)
    (h7 : w.extractLsb' 7 1 = 1#1) :
    w.extractLsb' 23 5 = 2#5 ∧ w.extractLsb' 20 2 = 0#2 ∧ w.extractLsb' 4 8 = 9#8 ↔
      w.extractLsb' 24 1 = 1#1 ∧ w.extractLsb' 23 1 = 0#1 ∧ w.extractLsb' 21 1 = 0#1 ∧ w.extractLsb' 20 1 = 0#1
        ∧ w.extractLsb' 8 4 = 0#4 ∧ w.extractLsb' 5 2 = 0#2 := by
  have hclass : w.extractLsb' 23 5 = 2#5 ↔ w.extractLsb' 25 3 = 0#3 ∧ w.extractLsb' 23 2 = 2#2 := slice_eq_iff w 23 2 3 _
  have hop : w.extractLsb' 23 2 = 2#2 ↔ w.extractLsb' 24 1 = 1#1 ∧ w.extractLsb' 23 1 = 0#1 := slice_eq_iff w 23 1 1 _
  have hlow : w.extractLsb' 20 2 = 0#2 ↔ w.extractLsb' 21 1 = 0#1 ∧ w.extractLsb' 20 1 = 0#1 := slice_eq_iff w 20 1 1 _
  have hswap : w.extractLsb' 4 8 = 9#8 ↔ w.extractLsb' 8 4 = 0#4 ∧ w.extractLsb' 4 4 = 9#4 := slice_eq_iff w 4 4 4 _
  rw [hclass, hop, hlow, hswap, multiplySpace_iff h4 h7]
  simp only [h25, true_and, and_assoc]

/-- The tree in the space of the multiplies, SWAP and the halfword transfers, in the bits that `isMultiply` and `isSwap`
name. -/
theorem decisionTree_extension {w : Word} (h25 : w.extractLsb' 25 3 = 0#3) (h4 : w.extractLsb' 4 1 = 1#1)
    (h7 : w.extractLsb' 7 1 = 1#1) : decisionTree w =
      if w.extractLsb' 24 1 = 0#1 ∧ w.extractLsb' 5 2 = 0#2 then (if w.extractLsb' 23 1 = 0#1 then 7 else 8)
      else if w.extractLsb' 24 1 = 1#1 ∧ w.extractLsb' 23 1 = 0#1 ∧ w.extractLsb' 21 1 = 0#1 ∧ w.extractLsb' 20 1 = 0#1
        ∧ w.extractLsb' 8 4 = 0#4 ∧ w.extractLsb' 5 2 = 0#2 then 9
      else if w.extractLsb' 22 1 = 0#1 ∧ w.extractLsb' 8 4 = 0#4 then 10
      else if w.extractLsb' 22 1 = 1#1 then 11 else 0 := by
  simp only [← swap_iff h25 h4 h7, and_comm (a := w.extractLsb' 24 1 = 0#1)]
  simp [decisionTree, h25, h4, h7, multiplySpace_iff h4 h7]

theorem treeAluOk_of_compareFieldsValid {w : Word}
    (h : CompareFieldsValid (w.extractLsb' 21 4) (w.extractLsb' 20 1) (w.extractLsb' 12 4)) : treeAluOk w = true :=
  (treeAluOk_eq_aluValid w).trans ((aluValid_iff_fields w).mpr h)

/-- On an encoded word the tree's slices are fixed bits or fields, so it takes the branch of the type. -/
theorem decisionTree_of_word? {c : Classification} {w : Word} (h : c.word? = some w) (hc : Encodable c) :
    decisionTree w = c.kind.code := by
  cases c with
  | unknown => cases h
  | aluRegShiftImm f | aluRegShiftReg f | aluImm f =>
    have hs := slice_of_append_eq (congrArg BitVec.toNat (Option.some.inj h))
    have hok : treeAluOk w = true := treeAluOk_of_compareFieldsValid <| by
      simp (disch := decide) only [hs, BitVec.extractLsb'_append_eq_of_le, BitVec.extractLsb'_append_eq_of_add_le,
        BitVec.extractLsb'_eq_self, Nat.reduceSub]
      exact hc
    simp (disch := decide) only [decisionTree, hok, hs, BitVec.extractLsb'_append_eq_of_le,
      BitVec.extractLsb'_append_eq_of_add_le, BitVec.extractLsb'_eq_self, Nat.reduceSub]
    rfl
  | halfwordReg f =>
    have hs := slice_of_append_eq (congrArg BitVec.toNat (Option.some.inj h))
    obtain ⟨hmul, hswap⟩ := hc
    have hmul : ¬ (f.p = 0#1 ∧ f.sh = 0#2) := by simpa [HalfwordRegFields.isMultiply] using hmul
    have hswap : ¬ (f.p = 1#1 ∧ f.u = 0#1 ∧ f.w = 0#1 ∧ f.l = 0#1 ∧ f.sh = 0#2) := by
      simpa [HalfwordRegFields.isSwap] using hswap
    rw [decisionTree_extension] <;>
      simp (disch := decide) only [hs, BitVec.extractLsb'_append_eq_of_le, BitVec.extractLsb'_append_eq_of_add_le,
        BitVec.extractLsb'_eq_self, Nat.reduceSub]
    · rw [if_neg hmul, if_neg fun ⟨hp, hu, hw, hl, _, hsh⟩ => hswap ⟨hp, hu, hw, hl, hsh⟩]
      rfl
    · rfl
  | halfwordImm f =>
    have hs := slice_of_append_eq (congrArg BitVec.toNat (Option.some.inj h))
    obtain ⟨hmul, hswap⟩ := hc
    rw [decisionTree_extension] <;>
      simp (disch := decide) only [hs, BitVec.extractLsb'_append_eq_of_le, BitVec.extractLsb'_append_eq_of_add_le,
        BitVec.extractLsb'_eq_self, Nat.reduceSub]
    · have hmul : ¬ (f.p = 0#1 ∧ f.sh = 0#2) := by simpa [HalfwordImmFields.isMultiply] using hmul
      have hswap : ¬ (f.p = 1#1 ∧ f.u = 0#1 ∧ f.w = 0#1 ∧ f.l = 0#1 ∧ f.offsetHi = 0#4 ∧ f.sh = 0#2) := by
        simpa [HalfwordImmFields.isSwap] using hswap
      rw [if_neg hmul, if_neg hswap]
      rfl
  | multiply f | multiplyLong f =>
    have htop : ∀ op : BitVec 3, op.extractLsb' 2 1 = BitVec.ofBool (op.getLsbD 2) := by decide
    have hs := slice_of_append_eq (congrArg BitVec.toNat (Option.some.inj h))
    simp (disch := decide) only [decisionTree, treeAluOk, hs, BitVec.extractLsb'_append_eq_of_le,
      BitVec.extractLsb'_append_eq_of_add_le, BitVec.extractLsb'_eq_self, Nat.reduceSub, htop,
      show f.op.getLsbD 2 = _ from hc, BitVec.ofBool_true, BitVec.ofBool_false]
    rfl
  | _ f =>
    have hs := slice_of_append_eq (congrArg BitVec.toNat (Option.some.inj h))
    simp (disch := decide) only [decisionTree, treeAluOk, hs, BitVec.extractLsb'_append_eq_of_le,
      BitVec.extractLsb'_append_eq_of_add_le, BitVec.extractLsb'_eq_self, Nat.reduceSub]
    rfl

theorem classify_of_word? {c : Classification} {w : Word} (h : c.word? = some w) (hc : Encodable c) :
    classify w = c := by
  rw [classify, code_injective ((code_eq_decisionTree w).trans (decisionTree_of_word? h hc)), extractAs_of_word? h]

/-! ## What a classified word is -/

/-- A word of the halfword formats is no multiply and no swap: those come earlier in the tree (R93, R94). -/
theorem halfword_bits {w : Word} (h25 : w.extractLsb' 25 3 = 0#3) (h4 : w.extractLsb' 4 1 = 1#1)
    (h7 : w.extractLsb' 7 1 = 1#1) (hcode : 10 ≤ (kindOf w).code) :
    ¬ (w.extractLsb' 24 1 = 0#1 ∧ w.extractLsb' 5 2 = 0#2) ∧
    ¬ (w.extractLsb' 24 1 = 1#1 ∧ w.extractLsb' 23 1 = 0#1 ∧ w.extractLsb' 21 1 = 0#1 ∧ w.extractLsb' 20 1 = 0#1
        ∧ w.extractLsb' 8 4 = 0#4 ∧ w.extractLsb' 5 2 = 0#2) := by
  rw [code_eq_decisionTree, decisionTree_extension h25 h4 h7] at hcode
  split_ifs at hcode with hmul h23 hswap
  · omega
  · omega
  · omega
  all_goals exact ⟨hmul, hswap⟩

theorem encodable_classify (w : Word) : Encodable (classify w) := by
  have htree (f : Filter) (hf : f ∈ filters) (h : kindOf w = f.kind) : treeTest w f.kind = true :=
    (validMatch_eq_treeTest hf w).symm.trans (validMatch_of_kindOf hf h)
  rw [classify]
  cases hk : kindOf w with
  | aluRegShiftImm => exact compareFieldsValid_of_kindOf (f := filterAluRegShiftImm) (by decide) hk rfl
  | aluRegShiftReg => exact compareFieldsValid_of_kindOf (f := filterAluRegShiftReg) (by decide) hk rfl
  | aluImm => exact compareFieldsValid_of_kindOf (f := filterAluImm) (by decide) hk rfl
  | multiply => exact multiplyOp_topBit hk
  | multiplyLong => exact multiplyLongOp_topBit hk
  | halfwordReg =>
    have ht := htree filterHalfwordReg (by decide) hk
    simp only [treeTest, filterHalfwordReg, decide_eq_true_eq] at ht
    obtain ⟨h25, h4, h7, h22, h8⟩ := ht
    obtain ⟨hmul, hswap⟩ := halfword_bits h25 h4 h7 (by rw [hk, Kind.code])
    simp only [h8] at hswap
    simpa [Encodable, extractAs, HalfwordRegFields.isMultiply, HalfwordRegFields.isSwap] using
      (And.intro hmul hswap :)
  | halfwordImm =>
    have ht := htree filterHalfwordImm (by decide) hk
    simp only [treeTest, filterHalfwordImm, decide_eq_true_eq] at ht
    obtain ⟨h25, h4, h7, -⟩ := ht
    obtain ⟨hmul, hswap⟩ := halfword_bits h25 h4 h7 (by rw [hk, Kind.code]; omega)
    simpa [Encodable, extractAs, HalfwordImmFields.isMultiply, HalfwordImmFields.isSwap] using
      (And.intro hmul hswap :)
  | _ => trivial

theorem wellFormed_iff_encodable (i : Instr) : i.wellFormed = true ↔ Encodable i.classification := by
  cases i <;> simp [Instr.wellFormed, Encodable, Instr.classification, CompareFieldsValid,
    AluRegShiftImmOperands.toFields, CmpRegShiftImmOperands.toFields, AluRegShiftRegOperands.toFields,
    CmpRegShiftRegOperands.toFields, AluImmOperands.toFields, CmpImmOperands.toFields, MultiplyOperands.toFields,
    MultiplyLongOperands.toFields]

theorem decodeWord_eq_none_iff (w : Word) : decodeWord w = none ↔ kindOf w = .unknown := by
  constructor
  · intro h
    rw [← classify_kind, classify_of_decodeWord_eq_none h]
    rfl
  · intro h
    rw [decodeWord, classify_of_unknown h]
    rfl

/-- Settles O4: a classified word meets what its own encoding needs, for the filters before its own do not match. -/
theorem everyClassifiedWordIsAnInstruction : Obligations.EveryClassifiedWordIsAnInstruction := by
  refine fun w => ⟨decodeWord_eq_none_iff w, fun i hi => ?_⟩
  have hclass := decodeWord_classification hi
  exact ⟨(wellFormed_iff_encodable i).mpr (hclass ▸ encodable_classify w), hclass⟩

/-! ## Encoding and decoding -/

theorem wordOfBytes_bytesOfWord (w : Word) :
    wordOfBytes (w.extractLsb' 0 8) (w.extractLsb' 8 8) (w.extractLsb' 16 8) (w.extractLsb' 24 8) = w := by
  apply BitVec.eq_of_toNat_eq
  simp only [wordOfBytes_toNat, BitVec.extractLsb'_toNat, Nat.shiftRight_eq_div_pow]
  omega

theorem decode_bytesOfWord {w : Word} {i : Instr} (h : decodeWord w = some i) (rest : List Byte) :
    decode (bytesOfWord w ++ rest) = .ok (i, rest) := by
  simp only [bytesOfWord, List.cons_append, List.nil_append, decode, wordOfBytes_bytesOfWord, h]

theorem word?_classification (i : Instr) : i.classification.word? = some (encode i) := by
  cases i <;> rfl

theorem toInstr?_classification (i : Instr) : i.classification.toInstr? = some i := by
  cases i <;> rfl

theorem classify_encode {i : Instr} (h : i.wellFormed = true) : classify (encode i) = i.classification :=
  classify_of_word? (word?_classification i) ((wellFormed_iff_encodable i).mp h)

/-- Settles O2: the word of a well-formed instruction takes the branch of its type in the decision tree, and its slices
are the instruction's fields. -/
theorem decodeOfEncodeGivesTheInstructionBack : Obligations.DecodeOfEncodeGivesTheInstructionBack := by
  refine fun i rest h => decode_bytesOfWord ?_ rest
  rw [decodeWord, classify_encode h, toInstr?_classification]

/-! ## Rebuilding a word -/

/-- In every row but UNDEFINED each bit is a control bit or lies in a field (R62). -/
theorem bits_covered : ∀ f ∈ filters, f.kind ≠ .undefined → ∀ i < 32,
    (∃ p ∈ f.pinned, p.1 = i) ∨ ∃ e ∈ f.extractors, e.lo ≤ i ∧ i ≤ e.hi ∧ e.hi - e.lo + 1 < 32 := by decide

/-- Two words of one row with the same fields are the same word. -/
theorem eq_of_extract_eq {f : Filter} (hf : f ∈ filters) (hkind : f.kind ≠ .undefined) {v w : Word}
    (hv : f.validMatch v = true) (hw : f.validMatch w = true) (h : f.extract v = f.extract w) : v = w := by
  apply BitVec.eq_of_getLsbD_eq
  intro i hi
  obtain ⟨p, hp, rfl⟩ | ⟨e, he, hlo, hhi, hlen⟩ := bits_covered f hf hkind i hi
  · rw [hasBits_of_validMatch hf hv p hp, hasBits_of_validMatch hf hw p hp]
  · have hfield : bits v e.hi e.lo = bits w e.hi e.lo := congrArg Prod.snd (List.map_inj_left.mp h e he)
    have hbit := congrArg (·.getLsbD (i - e.lo)) hfield
    simpa [bits_testBit _ _ _ _ hlen, show i - e.lo < e.hi - e.lo + 1 by omega, show e.lo + (i - e.lo) = i by omega,
      -BitVec.getLsbD_eq_getElem] using hbit

theorem exists_of_kind_undefined {i : Instr} (h : i.classification.kind = .undefined) : ∃ f, i = .undefined f := by
  have hrow := toInstr?_classification i
  cases hc : i.classification with
  | undefined f => exact ⟨f, Option.some.inj ((hc ▸ hrow).symm.trans rfl)⟩
  | _ => simp [hc, Classification.kind] at h

/-- Settles O3: the word encoded has the row and the fields of the word decoded. -/
theorem encodeOfDecodeRebuildsTheWord : Obligations.EncodeOfDecodeRebuildsTheWord := by
  intro w i hdecode hundefined
  obtain ⟨hwf, hclass⟩ := (everyClassifiedWordIsAnInstruction w).2 i hdecode
  have hsame : classify (encode i) = classify w := (classify_encode hwf).trans hclass
  have hkind : kindOf (encode i) = kindOf w := by rw [← classify_kind, hsame, classify_kind]
  cases hs : selected w with
  | none => rw [(decodeWord_eq_none_iff w).mpr ((kindOf_eq_unknown_iff w).mpr hs)] at hdecode; cases hdecode
  | some f =>
    have hf := selected_mem hs
    have hv : selected (encode i) = some f := (kindOf_eq_kind_iff hf _).mp (hkind.trans (kindOf_of_selected hs))
    refine eq_of_extract_eq hf ?_ ((selected_eq_some_iff hf _).mp hv).1 ((selected_eq_some_iff hf _).mp hs).1 ?_
    · intro hf
      obtain ⟨g, rfl⟩ := exists_of_kind_undefined (by rw [hclass, classify_kind, kindOf_of_selected hs, hf])
      exact hundefined g rfl
    · rw [← fieldMap_of_selected hv, hsame, fieldMap_of_selected hs]

end Sys2Proof.Machine
end

section
/-! What each instruction does (R112 to R124, R190 to R193): its body renders, or the unassigned multiply code fails, and
nothing but slot D, the ports and the latch changes. -/

namespace Sys2Proof.Machine

/-! ## The ALU formats (R115) -/

/-- Settles O14: the body of each row is its mnemonic with the operands unrendered. -/
theorem aluRegShiftImmInstructionsAreDecodedAndRendered :
    Obligations.AluRegShiftImmInstructionsAreDecodedAndRendered := by
  refine fun s I hD hI => ⟨fun o => ?_, fun o => ?_⟩ <;> intro row <;> and_intros <;> exact exec_of_body hD hI rfl

/-- Settles O15: the body of each row is its mnemonic with the operands unrendered. -/
theorem aluRegShiftRegInstructionsAreDecodedAndRendered :
    Obligations.AluRegShiftRegInstructionsAreDecodedAndRendered := by
  refine fun s I hD hI => ⟨fun o => ?_, fun o => ?_⟩ <;> intro row <;> and_intros <;> exact exec_of_body hD hI rfl

/-- Settles O16: the body of each row is its mnemonic with the operands unrendered. -/
theorem aluImmInstructionsAreDecodedAndRendered : Obligations.AluImmInstructionsAreDecodedAndRendered := by
  refine fun s I hD hI => ⟨fun o => ?_, fun o => ?_⟩ <;> intro row <;> and_intros <;> exact exec_of_body hD hI rfl

/-! ## Bodies without an operand (R117, R120) -/

section
variable {i : Instr} {s : State} {I : DecodedInstruction} (hD : s.slotD = some I) (hI : Unambiguous s I)
include hD hI

theorem exec_of_body_none {m : Mnemonic} (hbody : body I.address i.classification = .ok (m, .none)) :
    exec i s = .next (decodedState s I i.classification m .none (mnemonicText s.params m)) := by
  have htext : mnemonicText s.params m ++ operandText s.params .none = mnemonicText s.params m := String.append_empty
  rw [exec_of_body hD hI hbody, htext]

theorem exec_of_placeholder (hbody : body I.address i.classification = .ok (.placeholder i.classification.kind, .none)) :
    exec i s = .next (placeholderState s I i.classification (kindText i.classification.kind)) := by
  have hname (p : Config.Params) (k : Kind) : placeholderText p k = bracketedName p k (kindText k) := by
    rw [placeholderText, bracketedName]
    cases p.txtPlaceholder.find? fun e => e.1 == k <;> rfl
  rw [exec_of_body_none hD hI hbody, mnemonicText, hname]
  rfl

end

/-- Settles O18: the body of each row is its mnemonic, with no operand. -/
theorem multipliesAreDecodedAndRendered : Obligations.MultipliesAreDecodedAndRendered := by
  refine fun s I hD hI => ⟨fun o => ?_, fun o => ?_⟩ <;> intro row <;> and_intros <;>
    exact exec_of_body_none hD hI rfl

/-- Settles O20: each of the seven renders as its placeholder. -/
theorem loadAndStoreFormatsAreDecodedAndAccessNothing : Obligations.LoadAndStoreFormatsAreDecodedAndAccessNothing := by
  intro s I hD hI
  and_intros <;> exact fun f => exec_of_placeholder hD hI rfl

/-- Settles O21: each of the seven renders as its placeholder. -/
theorem systemFormatsAreDecodedAndTakeNoTrap : Obligations.SystemFormatsAreDecodedAndTakeNoTrap := by
  intro s I hD hI
  and_intros <;> exact fun f => exec_of_placeholder hD hI rfl

/-! ## The two decode errors (R77, R113) -/

/-- Settles O19: the code has no name in the table, so the row has no body. -/
theorem unassignedMultiplyCodeLatchesUnknownMnemonic : Obligations.UnassignedMultiplyCodeLatchesUnknownMnemonic := by
  intro s I o hD hI
  have hbody : body I.address (Instr.mulOp3Unassigned o).classification = .error (.unknownMnemonic .multiply 3) := rfl
  rw [exec_eq_decodeAs, decodeAs_of_renderError hD hI.ambiguous_eq_false (render_of_body_error hbody)]
  rfl

/-- Settles O23: the ambiguity is looked at before the row is rendered. -/
theorem ambiguousWordLatchesDecodeAmbiguityUnderThePolicy :
    Obligations.AmbiguousWordLatchesDecodeAmbiguityUnderThePolicy := by
  intro i s I hD hpolicy hmulti
  have hambiguous : s.ambiguous I.opcode = true := by rw [State.ambiguous, hpolicy, hmulti]; rfl
  rw [exec_eq_decodeAs, decodeAs_of_ambiguous hD hambiguous, ambiguousDecOutput, hmulti]
  rfl

theorem decodeAs_fault (c : Classification) (s : State) : ∃ t, decodeAs c s = .next t ∧
    (t.fault = s.fault ∨ t.fault = some (.unknownMnemonic .multiply 3)
      ∨ ∃ I, s.slotD = some I ∧ t.fault = some (.decodeAmbiguity I.opcode (matchVec I.opcode))) := by
  obtain ⟨_, h⟩ | ⟨I, hI, ⟨_, h⟩ | ⟨_, r, _, h⟩ | ⟨_, e, he, h⟩⟩ := decodeAs_cases c s
  · exact ⟨_, h, .inl rfl⟩
  · exact ⟨_, h, .inr (.inr ⟨I, hI, rfl⟩)⟩
  · exact ⟨_, h, .inl rfl⟩
  · obtain ⟨rfl, -⟩ := body_error (render_error he)
    exact ⟨_, h, .inr (.inl rfl)⟩

/-- Settles O24: what `decodeAs` can do, for every classification. -/
theorem everyInstructionCompletesAndChangesNoArchitecturalState :
    Obligations.EveryInstructionCompletesAndChangesNoArchitecturalState := by
  intro i s
  obtain ⟨t, ht, hfault⟩ := decodeAs_fault i.classification s
  obtain ⟨t', ht', hx, hbank, hpsr, hmem, hF, hX, hparams, hoptions, hrequests, hdraws, hD, -, -⟩ :=
    decodeAs_frame i.classification s
  obtain rfl : t = t' := Host.Outcome.next.inj (ht.symm.trans ht')
  have hread (r : Fin 16) : t.readReg r = s.readReg r := by rw [State.readReg, State.readReg, hx]
  exact ⟨t, (exec_eq_decodeAs i s).trans ht, hread, hread 15, hbank, hpsr, fun a => by rw [hmem], hF, hX, hD, hparams,
    hoptions, hrequests, hdraws, hfault⟩

end Sys2Proof.Machine
end

section
/-! The words of the filter table (R61, R62) and the line of text (R111). -/

namespace Sys2Proof.Machine

/-- Settles O1: the decoder evaluated on each of the thirteen words. -/
theorem specWordsDecodeToTheirInstructions : Obligations.SpecWordsDecodeToTheirInstructions := by
  unfold Obligations.SpecWordsDecodeToTheirInstructions
  and_intros <;> decide

/-! ## The line (R111) -/

theorem hexDigit_eq_getElem? : ∀ n < 16, some (hexDigit n) = "0123456789ABCDEF".toList[n]? := by decide

theorem hex8_toList (v : Word) :
    (hex8 v).toList = [28, 24, 20, 16, 12, 8, 4, 0].map fun k => hexDigit (v.extractLsb' k 4).toNat :=
  String.toList_ofList

theorem nibble_toNat (v : Word) (j : Nat) : (v.extractLsb' (4 * j) 4).toNat = v.toNat / 16 ^ j % 16 := by
  rw [BitVec.extractLsb'_toNat, Nat.shiftRight_eq_div_pow, Nat.pow_mul]

theorem hex8_getElem? (v : Word) {k : Nat} (hk : k < 8) :
    (hex8 v).toList[k]? = "0123456789ABCDEF".toList[v.toNat / 16 ^ (7 - k) % 16]? := by
  rw [← hexDigit_eq_getElem? _ (Nat.mod_lt _ (by decide)), ← nibble_toNat, hex8_toList]
  interval_cases k <;> rfl

theorem text_of_render {o : Config.FormatOptions} {a w : Word} {c : Classification} {r : Rendered}
    (h : render o a w c = .ok r) (p : Config.Params) :
    r.text p = (if o.showAddress then hex8 a ++ " : " else "") ++ (if o.showOpcode then hex8 w ++ " | " else "")
      ++ (mnemonicText p r.mnemonic ++ operandText p r.operand) := by
  cases hbody : body a c with
  | error e => rw [render_of_body_error hbody] at h; cases h
  | ok line =>
    rw [render_of_body hbody] at h
    cases h
    exact Rendered.text_shown ..

/-- Settles O12: a line is its body with the prefixes; digit `k` of `hex8` is the nibble `7 - k` of the word. -/
theorem renderedLineHasTheSpecLayout : Obligations.RenderedLineHasTheSpecLayout :=
  ⟨fun p _ _ _ _ _ h => text_of_render h p, fun v => ⟨by rw [hex8_toList]; rfl, fun _ hk => hex8_getElem? v hk⟩⟩

end Sys2Proof.Machine
end

section
/-! What a cycle reads (R151 to R153): two states alike in the pc, the slots, memory, the latch, the parameters, the options
and the ports have cycles alike in them. So no step reads the inert registers (R11, R13, R14), and a cycle does not look at
the requests behind it (log entry 6). -/

namespace Sys2Proof.Machine

/-! ## Cycles of states that are alike -/

/-- The two states agree on all that a cycle reads. -/
structure AlikeInCycle (s t : State) : Prop where
  pc : s.pc = t.pc
  slotF : s.slotF = t.slotF
  slotD : s.slotD = t.slotD
  slotX : s.slotX = t.slotX
  mem : s.mem = t.mem
  fault : s.fault = t.fault
  params : s.params = t.params
  options : s.options = t.options
  out : s.out = t.out

/-- Both complete, in states that are in the relation, or both stop with the same fault. -/
inductive AlikeOutcomes (R : State → State → Prop) :
    Host.Outcome State Fault Refusal → Host.Outcome State Fault Refusal → Prop where
  | next {s t : State} : R s t → AlikeOutcomes R (.next s) (.next t)
  | fault (f : Fault) : AlikeOutcomes R (.fault f) (.fault f)

section
variable {R : State → State → Prop} {b : Host.Outcome State Fault Refusal}

theorem AlikeOutcomes.exists_of_next {s' : State} (h : AlikeOutcomes R (.next s') b) :
    ∃ t', b = .next t' ∧ R s' t' := by
  cases h with
  | next h => exact ⟨_, rfl, h⟩

theorem AlikeOutcomes.eq_of_fault {f : Fault} (h : AlikeOutcomes R (.fault f) b) : b = .fault f := by
  cases h
  rfl

theorem AlikeOutcomes.not_refused {r : Refusal} : ¬ AlikeOutcomes R (.refused r) b := nofun

end

theorem decodeAs_alike {s t : State} (h : AlikeInCycle s t) (c : Classification) :
    AlikeOutcomes AlikeInCycle (decodeAs c s) (decodeAs c t) := by
  have hambiguous (w : Word) : t.ambiguous w = s.ambiguous w := by rw [State.ambiguous, State.ambiguous, h.params]
  obtain ⟨hD, hc⟩ | ⟨I, hD, ⟨ha, hc⟩ | ⟨ha, r, hr, hc⟩ | ⟨ha, e, he, hc⟩⟩ := decodeAs_cases c s <;> rw [hc]
  · rw [decodeAs_of_empty (h.slotD.symm.trans hD)]
    exact .next h
  · rw [decodeAs_of_ambiguous (h.slotD.symm.trans hD) ((hambiguous _).trans ha)]
    exact .next ⟨h.pc, h.slotF, h.slotD, h.slotX, h.mem, rfl, h.params, h.options, by simp [h.out]⟩
  · rw [h.options] at hr
    rw [decodeAs_of_rendered (h.slotD.symm.trans hD) ((hambiguous _).trans ha) hr]
    exact .next ⟨h.pc, h.slotF, rfl, h.slotX, h.mem, h.fault, h.params, h.options,
      by simp [h.out, State.decodedOutput, h.params]⟩
  · rw [h.options] at he
    rw [decodeAs_of_renderError (h.slotD.symm.trans hD) ((hambiguous _).trans ha) he]
    exact .next ⟨h.pc, h.slotF, h.slotD, h.slotX, h.mem, rfl, h.params, h.options, by simp [h.out]⟩

theorem decodeAndRender_alike {s t : State} (h : AlikeInCycle s t) :
    AlikeOutcomes AlikeInCycle (decodeAndRender s) (decodeAndRender t) := by
  cases hD : s.slotD with
  | none =>
    rw [decodeAndRender_of_empty hD, decodeAndRender_of_empty (h.slotD.symm.trans hD)]
    exact .next h
  | some I =>
    rw [decodeAndRender_of_occupied hD, decodeAndRender_of_occupied (h.slotD.symm.trans hD)]
    exact decodeAs_alike h _

theorem executeAndRelease_alike {s t : State} (h : AlikeInCycle s t) :
    AlikeInCycle (executeAndRelease s) (executeAndRelease t) := by
  rw [executeAndRelease, executeAndRelease, ← h.slotX]
  cases hX : s.slotX with
  | none => exact h
  | some I => exact ⟨h.pc, h.slotF, h.slotD, rfl, h.mem, h.fault, h.params, h.options, by simp [h.out]⟩

theorem finishCycle_alike {a b : Host.Outcome State Fault Refusal} (h : AlikeOutcomes AlikeInCycle a b) :
    AlikeOutcomes AlikeInCycle (finishCycle a) (finishCycle b) := by
  cases h with
  | fault f => exact .fault f
  | @next s t h =>
    cases hfault : s.fault with
    | none =>
      rw [finishCycle_of_clear hfault, finishCycle_of_clear (h.fault.symm.trans hfault)]
      exact .next (executeAndRelease_alike h)
    | some e =>
      rw [finishCycle_of_latched hfault, finishCycle_of_latched (h.fault.symm.trans hfault)]
      exact .next h

theorem cycle_alike {s t : State} (h : AlikeInCycle s t) : AlikeOutcomes AlikeInCycle (cycle s) (cycle t) := by
  have hclear : AlikeInCycle s.clearOut t.clearOut :=
    ⟨h.pc, h.slotF, h.slotD, h.slotX, h.mem, h.fault, h.params, h.options, rfl⟩
  have hread : read32 t.mem t.pc = read32 s.mem s.pc := by rw [h.mem, h.pc]
  obtain ⟨e, hfault, hc⟩ | ⟨hfault, hX, e, he, hc⟩ | ⟨hfault, hX, w, hw, hc⟩ | ⟨hfault, I, hX, hc⟩ := cycle_cases s <;>
    rw [hc]
  · rw [cycle_of_latched (h.fault.symm.trans hfault)]
    exact .fault _
  · rw [cycle_of_fetchError (h.fault.symm.trans hfault) (h.slotX.symm.trans hX) (hread.trans he)]
    exact .next { hclear with fault := rfl }
  · rw [cycle_of_fetched (h.fault.symm.trans hfault) (h.slotX.symm.trans hX) (hread.trans hw)]
    exact finishCycle_alike (decodeAndRender_alike
      ⟨by simp [hclear.pc], by simp [hclear.pc], h.slotF, h.slotD, h.mem, h.fault, h.params, h.options,
        by simp [hclear.pc]⟩)
  · rw [cycle_of_occupied (h.fault.symm.trans hfault) (h.slotX.symm.trans hX)]
    exact finishCycle_alike (decodeAndRender_alike hclear)

/-! ## Requests (R150, log entries 6 and 7) -/

/-- A state is what a cycle reads of it with the inert registers, the requests and the count of resets. -/
theorem AlikeInCycle.eq {s t : State} (h : AlikeInCycle s t) (hread : ∀ r, r ≠ 15 → s.readReg r = t.readReg r)
    (hbank : s.bank = t.bank) (hpsr : s.psr = t.psr) (hrequests : s.requests = t.requests) (hdraws : s.draws = t.draws) :
    s = t := by
  have hx : s.x = t.x := Vector.ext fun i hi => by
    by_cases h15 : (⟨i, hi⟩ : Fin 16) = 15
    · cases h15
      exact h.pc
    · exact hread ⟨i, hi⟩ h15
  obtain ⟨-, hF, hD, hX, hmem, hfault, hparams, hoptions, hout⟩ := h
  cases s
  cases t
  subst hx hbank hpsr hF hD hX hmem hfault hparams hoptions hrequests hout hdraws
  rfl

/-- A cycle carries the requests through. -/
theorem cycle_with_requests (s : State) (rest : List Request) :
    (∀ t, cycle s = .next t → cycle { s with requests := rest } = .next { t with requests := rest })
    ∧ ∀ f, cycle s = .fault f → cycle { s with requests := rest } = .fault f := by
  have halike : AlikeOutcomes AlikeInCycle (cycle s) (cycle { s with requests := rest }) :=
    cycle_alike ⟨rfl, rfl, rfl, rfl, rfl, rfl, rfl, rfl, rfl⟩
  refine ⟨fun t ht => ?_, fun f hf => ?_⟩
  · obtain ⟨t', ht', h⟩ := (ht ▸ halike).exists_of_next
    obtain ⟨hread, hbank, hpsr, -, -, -, -, hdraws, -⟩ := cycle_frame ht
    obtain ⟨hread', hbank', hpsr', -, -, -, hrequests', hdraws', -⟩ := cycle_frame ht'
    have heq : t' = { t with requests := rest } := AlikeInCycle.eq
      ⟨h.pc.symm, h.slotF.symm, h.slotD.symm, h.slotX.symm, h.mem.symm, h.fault.symm, h.params.symm, h.options.symm,
        h.out.symm⟩
      (fun r hr => (hread' r hr).trans (hread r hr).symm) (hbank'.trans hbank.symm) (hpsr'.trans hpsr.symm) hrequests'
      (hdraws'.trans hdraws.symm)
    rw [ht', heq]
  · exact (hf ▸ halike).eq_of_fault

/-- Settles O33: the options of the request are put in force and the rest of the requests is carried through. -/
theorem requestedCycleIsACycleUnderItsOptions : Obligations.RequestedCycleIsACycleUnderItsOptions := by
  intro s o rest h
  have hcycle : step s = cycle { ({ s with requests := [], options := o } : State) with requests := rest } :=
    step_of_request h
  have hunasked : step { s with requests := [], options := o } = cycle { s with requests := [], options := o } :=
    step_of_noRequest rfl
  rw [hcycle, hunasked]
  exact cycle_with_requests _ rest

/-! ## The inert registers -/

theorem sameButInert_iff {s t : State} :
    SameButInert s t ↔ AlikeInCycle s t ∧ s.requests = t.requests ∧ s.draws = t.draws := by
  constructor
  · rintro ⟨hpc, hF, hD, hX, hmem, hfault, hparams, hoptions, hrequests, hout, hdraws⟩
    exact ⟨⟨hpc, hF, hD, hX, hmem, hfault, hparams, hoptions, hout⟩, hrequests, hdraws⟩
  · rintro ⟨h, hrequests, hdraws⟩
    exact ⟨h.pc, h.slotF, h.slotD, h.slotX, h.mem, h.fault, h.params, h.options, hrequests, h.out, hdraws⟩

theorem cycle_sameButInert {s t : State} (h : SameButInert s t) : AlikeOutcomes SameButInert (cycle s) (cycle t) := by
  obtain ⟨halike, hrequests, hdraws⟩ := sameButInert_iff.mp h
  have houtcomes := cycle_alike halike
  cases hs : cycle s with rw [hs] at houtcomes
  | next s' =>
    obtain ⟨t', ht, halike'⟩ := houtcomes.exists_of_next
    obtain ⟨-, -, -, -, -, -, hr, hd, -⟩ := cycle_frame hs
    obtain ⟨-, -, -, -, -, -, hr', hd', -⟩ := cycle_frame ht
    rw [ht]
    exact .next (sameButInert_iff.mpr ⟨halike', hr.trans (hrequests.trans hr'.symm), hd.trans (hdraws.trans hd'.symm)⟩)
  | fault f =>
    rw [houtcomes.eq_of_fault]
    exact .fault f
  | refused r => exact absurd houtcomes AlikeOutcomes.not_refused

theorem hostReset_sameButInert {s t : State} (h : SameButInert s t) : SameButInert s.hostReset t.hostReset := by
  obtain ⟨-, -, -, -, -, -, hparams, hoptions, hrequests, -, hdraws⟩ := h
  exact ⟨rfl, rfl, rfl, rfl, by simp [hdraws], rfl, hparams, hoptions, hrequests, rfl, by simp [hdraws]⟩

theorem serve_sameButInert {s t : State} (h : SameButInert s t) (c : Command) :
    SameButInert (s.serve c) (t.serve c) := by
  obtain ⟨hpc, hF, hD, hX, hmem, hfault, hparams, hoptions, hrequests, -, hdraws⟩ := h
  exact ⟨hpc, hF, hD, hX, by simp [hmem], hfault, hparams, hoptions, hrequests, by simp [hmem], hdraws⟩

theorem SameButInert.requestServed {s t : State} (h : SameButInert s t) (rest : List Request)
    (o : Config.FormatOptions) : SameButInert { s with requests := rest } { t with requests := rest }
      ∧ SameButInert { s with requests := rest, options := o } { t with requests := rest, options := o } := by
  obtain ⟨hpc, hF, hD, hX, hmem, hfault, hparams, hoptions, -, hout, hdraws⟩ := h
  exact ⟨⟨hpc, hF, hD, hX, hmem, hfault, hparams, hoptions, rfl, hout, hdraws⟩,
    ⟨hpc, hF, hD, hX, hmem, hfault, hparams, rfl, rfl, hout, hdraws⟩⟩

theorem step_sameButInert {s t : State} (h : SameButInert s t) : AlikeOutcomes SameButInert (step s) (step t) := by
  have hrequests : s.requests = t.requests := (sameButInert_iff.mp h).2.1
  obtain ⟨hr, hs⟩ | ⟨rest, ⟨hr, hs⟩ | ⟨c, hr, hs⟩ | ⟨o, hr, hs⟩⟩ := step_cases s <;> rw [hs]
  · rw [step_of_noRequest (hrequests.symm.trans hr)]
    exact cycle_sameButInert h
  · rw [step_of_reset (hrequests.symm.trans hr)]
    exact .next (hostReset_sameButInert (h.requestServed rest s.options).1)
  · rw [step_of_request (hrequests.symm.trans hr)]
    exact .next (serve_sameButInert (h.requestServed rest s.options).1 c)
  · rw [step_of_request (hrequests.symm.trans hr)]
    exact cycle_sameButInert (h.requestServed rest o).2

/-- Settles O44: a request is served and a cycle goes by what the two states have in common. -/
theorem noStepReadsTheInertRegisters : Obligations.NoStepReadsTheInertRegisters := by
  intro s t h
  have houtcomes := step_sameButInert h
  exact ⟨fun s' hs => (hs ▸ houtcomes).exists_of_next, fun f hs => (hs ▸ houtcomes).eq_of_fault,
    fun r hs => absurd (hs ▸ houtcomes) AlikeOutcomes.not_refused⟩

/-! ## The latch (R20, R142, R150) -/

/-- Settles O34: a cycle stops on the latch, and a command leaves it. -/
theorem onlyResetClearsTheFaultLatch : Obligations.OnlyResetClearsTheFaultLatch := by
  refine ⟨fun s e hfault hrequests => ?_, fun s t e => step_keeps_latch_or_resets, fun s t c rest hrequests hstep => ?_⟩
  · obtain hnone | ⟨o, rest, hcycle⟩ := hrequests
    · exact step_of_latched hnone hfault
    · exact (step_of_request hcycle).trans (cycle_of_latched hfault)
  · cases (step_of_command hrequests).symm.trans hstep
    rfl

end Sys2Proof.Machine
end

section
/-! Which word a step runs (R151, R152, R154): the one fetched in the cycle before, so a word that the host writes at the
pc is fetched by the next cycle (R48), and a word of the probe is run by the next step (log entry 10). -/

namespace Sys2Proof.Machine

/-! ## The instruction in slot F -/

theorem decodeAndRender_of_row {s : State} {I : DecodedInstruction} {i : Instr} (hD : s.slotD = some I)
    (hi : decodeWord I.opcode = some i) : decodeAndRender s = exec i s := by
  rw [decodeAndRender_of_occupied hD, exec_eq_decodeAs, decodeWord_classification hi]

theorem decodeAndRender_of_unknown {s : State} {I : DecodedInstruction} (hD : s.slotD = some I)
    (h : decodeWord I.opcode = none) : decodeAndRender s = decodeUnknown s := by
  rw [decodeAndRender_of_occupied hD, classify_of_decodeWord_eq_none h, decodeUnknown]

theorem step_of_row {s : State} {w : Word} {I : DecodedInstruction} {i : Instr} (hready : Ready s)
    (hfetch : read32 s.mem s.pc = .ok w) (hF : s.slotF = some I) (hi : decodeWord I.opcode = some i) :
    step s = finishCycle (exec i (s.clearOut.shiftIn w)) := by
  rw [step_of_ready hready hfetch, decodeAndRender_of_row hF hi]

/-- Settles O25: what the decode sub-step does with the instruction that the shift moved from F to D. -/
theorem stepRunsTheInstructionFetchedBefore : Obligations.StepRunsTheInstructionFetchedBefore := by
  refine fun s w hready hfetch =>
    ⟨fun I i => step_of_row hready hfetch, fun I hF hnone => ?_, step_of_emptyF hready hfetch⟩
  rw [step_of_ready hready hfetch, decodeAndRender_of_unknown hF hnone]

/-- Settles O26: the cycle leaves the word in F and PIPE ready. -/
theorem instructionAtThePcRunsInTheCycleAfterItsFetch :
    Obligations.InstructionAtThePcRunsInTheCycleAfterItsFetch := by
  intro s t w w' i hready hfetch hi hstep hclear hfetch'
  have hcycle : cycle s = .next t := (step_of_noRequest hready.requests_eq).symm.trans hstep
  obtain ⟨u, hu, hF, hpc, -, -, hend⟩ := cycle_shifts_of_fetched hready.fault_eq hready.2.2 hfetch
  cases hcycle.symm.trans hu
  obtain ⟨-, -, hX⟩ | ⟨hlatched, -⟩ := hend
  · obtain ⟨-, -, -, -, -, -, hrequests, -⟩ := cycle_frame hcycle
    exact ⟨hF, hpc, step_of_row ⟨hrequests.trans hready.requests_eq, hclear, hX⟩ hfetch' hF hi⟩
  · rw [hclear] at hlatched
    cases hlatched

/-! ## Reading back a word just written (R39, R133, R135) -/

theorem withinOneWindow_of_readable {a n : Nat} (hn : 0 < n) (h : accessCheck a n = none) :
    WithinOneWindow a (a + n - 1) :=
  (withinOneWindow_iff_sameZoneOrPair (by omega)).mpr ((accessCheck_eq_none_iff a n).mp h)

theorem bytesOfWord_length (w : Word) : (bytesOfWord w).length = 4 := rfl

theorem wordAt_writeBytes {m : Memory} {a : Nat} (hm : m.wf) (h : WithinOneWindow a (a + 4 - 1)) (w : Word) :
    wordAt (writeBytes m a (bytesOfWord w)) a = w := by
  obtain ⟨b, i, hl⟩ := (withinOneWindow_iff_consecutive (by decide)).mp h
  rw [← bytesOfWord_length w] at hl
  have hbyte {k : Nat} (hk : k < (bytesOfWord w).length) :
      byteAt (writeBytes m a (bytesOfWord w)) (a + k) = (bytesOfWord w)[k] := by
    refine byteAt_writeBytes_at hm (fun k hk => cellOf_isSome_of_locate (hl k hk)) (fun j k hj hk hcell => ?_) hk
    have hsame := (cellOf_eq_iff_locate ..).mp hcell
    rw [hl j hj, hl k hk] at hsame
    simpa using hsame
  have h0 : byteAt (writeBytes m a (bytesOfWord w)) a = w.extractLsb' 0 8 := hbyte (by decide : 0 < 4)
  have h1 : byteAt (writeBytes m a (bytesOfWord w)) (a + 1) = w.extractLsb' 8 8 := hbyte (by decide : 1 < 4)
  have h2 : byteAt (writeBytes m a (bytesOfWord w)) (a + 2) = w.extractLsb' 16 8 := hbyte (by decide : 2 < 4)
  have h3 : byteAt (writeBytes m a (bytesOfWord w)) (a + 3) = w.extractLsb' 24 8 := hbyte (by decide : 3 < 4)
  rw [wordAt, h0, h1, h2, h3, wordOfBytes_bytesOfWord]

/-! ## The probe (log entry 10) -/

theorem tableWord_toNat (w : Word) : tableWord 32 w.toNat = w := by
  rw [tableWord, Nat.mod_eq_of_lt w.isLt, BitVec.ofNat_toNat, BitVec.setWidth_eq]

theorem probeAddress_readable (s : State) :
    accessCheck (probeAddress s).toNat 4 = none ∧ accessCheck (probeAddress s + 4).toNat 4 = none := by
  rw [probeAddress]
  split
  · next h =>
    obtain ⟨hpc, hnext⟩ := (Bool.and_eq_true ..).mp h
    exact ⟨Option.isNone_iff_eq_none.mp hpc, Option.isNone_iff_eq_none.mp hnext⟩
  · decide

/-- Settles O27: the probe's state is ready, with the word in memory before its pc and in slot F. -/
theorem placedWordRunsInTheVeryNextStep : Obligations.PlacedWordRunsInTheVeryNextStep := by
  intro s w i hm hi
  obtain ⟨hword, hnext⟩ := probeAddress_readable s
  have hstate : s.withFetchWord 32 w.toNat = s.placeFetched w := by rw [State.withFetchWord, tableWord_toNat]
  have hpc : (s.placeFetched w).pc = probeAddress s + 4 := by simp [State.placeFetched, State.pc, State.readReg]
  have hback : read32 (s.placeFetched w).mem (probeAddress s) = .ok w := by
    rw [read32_of_accepted hword]
    exact congrArg Except.ok (wordAt_writeBytes hm (withinOneWindow_of_readable (by decide) hword) w)
  have hfetch : read32 (s.placeFetched w).mem (s.placeFetched w).pc =
      .ok (wordAt (s.placeFetched w).mem (s.placeFetched w).pc.toNat) := read32_of_accepted (hpc ▸ hnext)
  refine ⟨_, _, hstate.symm, ?_, hfetch, ?_⟩
  · rw [hpc, BitVec.add_sub_cancel, hback]
  · exact step_of_row ⟨rfl, rfl, rfl⟩ hfetch rfl hi

/-! ## A word the host writes at the pc (R48) -/

theorem rangeCheck_of_bios {a : Nat} (h : a + 4 ≤ 0x4000) : rangeCheck a (a + 4) = none := by
  have hzone : a / 0x1000000 = 0 ∧ (a + 4) / 0x1000000 = 0 := by omega
  have hsize : sixteenZoneSizes.getD 0 0 = 0x4000 := rfl
  refine (rangeCheck_eq_none_iff ..).mpr ⟨by omega, by omega, .inl (hzone.1.trans hzone.2.symm), ?_, ?_⟩
  · rw [offsetWithinZone, hzone.1, hsize]
    omega
  · rw [offsetWithinZone, hzone.2, hsize]
    omega

/-- Settles O36: the write is accepted, and the next cycle reads it back where it fetches. -/
theorem hostWriteIsSeenByTheNextFetchOnly : Obligations.HostWriteIsSeenByTheNextFetchOnly := by
  intro s w hm hrequests hfault hX hpc
  have hwrite : writeBlock s.mem s.pc (bytesOfWord w) = .ok (writeBytes s.mem s.pc.toNat (bytesOfWord w)) := by
    rw [writeBlock, bytesOfWord_length, rangeCheck_of_bios hpc]
  have hserve : serveCommand s.mem (.writeBlock s.pc (bytesOfWord w)) =
      (writeBytes s.mem s.pc.toNat (bytesOfWord w), .done) := by
    rw [serveCommand, hwrite, writeReply]
  have hstep := step_of_command hrequests
  rw [hserve] at hstep
  have hfetch : read32 (writeBytes s.mem s.pc.toNat (bytesOfWord w)) s.pc = .ok w := by
    rw [read32_of_bios hpc, wordAt_writeBytes hm ⟨.bios, 0, by decide, Nat.zero_le _, by simp [Buffer.size]; omega⟩]
  obtain ⟨u, hu, hF, -, -, hD, -⟩ := cycle_shifts_of_fetched
    (s := { s with requests := [], mem := writeBytes s.mem s.pc.toNat (bytesOfWord w), out := { reply := some .done } })
    hfault hX hfetch
  exact ⟨_, u, hstep, rfl, rfl, rfl, rfl, (step_of_noRequest rfl).trans hu, hF, hD⟩

end Sys2Proof.Machine
end
